-- ==== Sys2Proof/Word.lean ====
section
/-! DEFINITION. The word of the part (R194): 16 bits, numbered 15 (most significant) down to 0. -/

namespace Sys2Proof

/-- A 16-bit word: a line word, a table word, a sequence number (R58), a counter (R184), or a sample,
coefficient, residual or correction read as a signed two's-complement value (00_scope, Conventions). -/
abbrev Word := BitVec 16

end Sys2Proof
end

