-- ==== Sys2Proof/Syntax.lean ====
section
/-! DEFINITION. The commands of the block: one constructor for each row of spec/opcode_table.json, in the table's
order. The rows carry no fields; an operand here names the port, lane, bank or slot that a row's event reaches, or
the word that a line receiver recovered. A management row carries no operand: its operands stand in the frame
that the Management Unit has in execution (R165). -/

namespace Sys2Proof

/-- The two banks of the Tap Store (R77). -/
inductive BankId where
  | e | o
  deriving DecidableEq, Repr

/-- One step of the part, as the table of operations and events lists them. -/
inductive Instr where
  | powerOnReset
  | resetRelease
  | portLinkLock (p : Fin 8)
  | portLossOfLock (p : Fin 8)
  | portSymbolError (p : Fin 8)
  | portWordReceived (p : Fin 8) (w : Word)
  | portStartMark (p : Fin 8)
  | portEndMark (p : Fin 8)
  | portWatchdogExpiry (p : Fin 8)
  | portRateGateEnd (p : Fin 8)
  | periodExpiry
  | passPush
  | walkSlot
  | passComplete
  | tapOperationComplete (b : BankId)
  | reportTake
  | adaptPathUpdate
  | laneLinkLock (l : Fin 4)
  | laneLossOfLock (l : Fin 4)
  | laneSymbolError (l : Fin 4)
  | laneWordReceived (l : Fin 4) (w : Word)
  | laneStartMark (l : Fin 4)
  | laneEndMark (l : Fin 4)
  | laneTransmitEnd (l : Fin 4)
  | answerWindowExpiry (l : Fin 4) (slot : Fin 96)
  | mgmtFrameTake
  | mwritePort
  | mwriteSource
  | mwriteSlot
  | mwritePath
  | mwriteTaps
  | mwrite
  | mread
  | mreadTaps
  | mreadCountersClear
  | run
  | stop
  | restart
  | startSlot
  | haltSlot
  | releaseSlot
  | gainRestart
  | clearParity
  | dump
  | laneReset
  | portReset
  | executionComplete
  | returnTransmitEnd
  deriving DecidableEq, Repr

end Sys2Proof
end

