-- ==== Sys2Proof/Config.lean ====
section
/-! DEFINITION. What the part fixes for good (durations and rates, in nanoseconds), and the one free value
of the model. A constant with no body is a free value: nothing can be proved of it. -/

namespace Sys2Proof
namespace Config

/-- R71: the apply and push stages of a pass take 0.20 µs. -/
def pushStagesNs : Nat := 200
/-- R71: each selected slot takes 0.02 µs. -/
def selectedSlotNs : Nat := 20
/-- R71: each path computed takes 0.008 µs. -/
def pathNs : Nat := 8
/-- R71: each tap of a path computed takes 0.001 µs. -/
def tapNs : Nat := 1
/-- R71, R72: each tap written while a pass is in flight takes 0.004 µs. -/
def tapWriteNs : Nat := 4
/-- R41: a rate gate lasts 1.024 ms. -/
def rateGateNs : Nat := 1024000
/-- R37: the unit of the watchdog span is 100 µs. -/
def watchdogUnitNs : Nat := 100000
/-- R181: the S0 return sends 100 Mbit/s, one 16-bit word in 0.16 µs. -/
def returnWordNs : Nat := 160
/-- R117: one word time of a lane at line divisor 0 is 0.08 µs; at divisor d it is d + 1 times that. -/
def laneWordNs : Nat := 80

/-- FREE VALUE (log entry 5, DESIGN CHOICE). The rank of a slot among the slots that one entry to UP
resumes: 09_counters section 9.5 says their CHANNEL-STATE raises "are taken in some order". The first argument
counts the entries to UP, so that the order may differ from one to the next. -/
opaque resumeRank : Nat → Nat → Nat

end Config
end Sys2Proof
end

