-- ==== Sys2Proof/WellFormed.lean ====
section
/-! DEFINITION. When a command names something the part has. Port, lane, bank and slot numbers are bounded by
their types; what is left is that an answer window belongs to the lane that sent the frame. -/

namespace Sys2Proof

/-- The lane of slot s is s div 24 (00_scope, System context; chapter 6). -/
def slotLane (s : Fin 96) : Fin 4 := ⟨s.1 / 24, by omega⟩

/-- R126: a lane's outstanding table has records for its own 24 slots only, so an answer window can expire on lane
l only for a slot that l carries. -/
def Instr.wf : Instr → Bool
  | .answerWindowExpiry l slot => slotLane slot == l
  | .powerOnReset | .resetRelease | .portLinkLock _ | .portLossOfLock _ | .portSymbolError _
  | .portWordReceived _ _ | .portStartMark _ | .portEndMark _ | .portWatchdogExpiry _ | .portRateGateEnd _
  | .periodExpiry | .passPush | .walkSlot | .passComplete | .tapOperationComplete _ | .reportTake
  | .adaptPathUpdate | .laneLinkLock _ | .laneLossOfLock _ | .laneSymbolError _ | .laneWordReceived _ _
  | .laneStartMark _ | .laneEndMark _ | .laneTransmitEnd _ | .mgmtFrameTake | .mwritePort | .mwriteSource
  | .mwriteSlot | .mwritePath | .mwriteTaps | .mwrite | .mread | .mreadTaps | .mreadCountersClear | .run
  | .stop | .restart | .startSlot | .haltSlot | .releaseSlot | .gainRestart | .clearParity | .dump
  | .laneReset | .portReset | .executionComplete | .returnTransmitEnd => true

end Sys2Proof
end

