-- ==== Sys2Proof/Machine/State.lean ====
section
/-! DEFINITION. The state of the part as plain data, and its value right after reset. Field comments name the rule
that gives the field. -/

namespace Sys2Proof
namespace Machine

/-! ### Sense ports -/

/-- R31: one Port Table entry of a sense port. -/
structure PortEntry where
  enabled : Bool
  acceptDamaged : Bool
  strict : Bool
  passThreshold : Nat
  watchdogSpan : Nat
  minRate : Nat
  rateHysteresis : Nat
  stableGates : Nat
  errorThreshold : Nat
  deriving DecidableEq, Repr

/-- The four port states of section 2.3. -/
inductive PortMode where
  | off | dark | qualifying | passing
  deriving DecidableEq, Repr

/-- R25, R127: a frame being collected: the words so far, and whether a symbol error marked it. -/
structure RxFrame where
  words : List Word
  marked : Bool
  deriving DecidableEq, Repr

/-- The state of one sense port receiver (R25, R33 to R43). -/
structure Port where
  mode : PortMode
  /-- R33, R201: the line receiver is training its link. -/
  training : Bool
  /-- The valid-frame run (R34). -/
  run : Nat
  linkErrors : Nat
  /-- R37: none while stopped; otherwise the span (units of 100 µs) read at the last start. -/
  watchdog : Option Nat
  /-- R41: none while no gate runs; otherwise the count F of the gate in progress. -/
  gate : Option Nat
  /-- The measured rate M (R42). -/
  rate : Nat
  stableRun : Nat
  /-- R31, R42: the rate is stable, as of the last gate end (log entry 30). -/
  stable : Bool
  rx : Option RxFrame
  deriving DecidableEq, Repr

/-! ### Sources and stores -/

inductive SourceKind where
  | unused | sensor | aggressor
  deriving DecidableEq, Repr

/-- R44: one Source Table entry. -/
structure SourceEntry where
  kind : SourceKind
  port : Fin 8
  node : Fin 32
  channel : Fin 31
  slot : Fin 96
  invert : Bool
  holdLimit : Nat
  deriving DecidableEq, Repr

/-- R47: a source's latch. -/
structure Latch where
  value : Word
  age : Nat
  fresh : Bool
  deriving DecidableEq, Repr

/-- A stored word with its parity (R77, R61): `good` says that the stored parity agrees with the value. -/
structure StoredWord where
  value : Word
  good : Bool
  deriving DecidableEq, Repr

/-- A store of words by address: only the words that differ from 0 with good parity, addresses rising. -/
abbrev Store := List (Nat × StoredWord)

/-! ### The pass and the Path Table -/

inductive PathState where
  | unused | enabled | disabled
  deriving DecidableEq, Repr

/-- R2: one Path Table entry. -/
structure PathEntry where
  state : PathState
  slot : Fin 96
  source : Fin 48
  block : Fin 512
  taps : Nat
  delay : Nat
  adaptive : Bool
  deriving DecidableEq, Repr

/-- R60: where a pass stands. The apply stage is part of its beginning. -/
inductive PassStage where
  | idle | push | walk
  deriving DecidableEq, Repr

/-- R59: how the latest pass that ended did so. -/
inductive PassOutcome where
  | none | completed | overrun | restarted
  deriving DecidableEq, Repr

/-- R73, R76: what ends a pass early. -/
inductive PassEnding where
  | overrun | restart
  deriving DecidableEq, Repr

/-- A path of the slot in computation whose coefficients are still to be read (R16): its block and length, and the
history values of its span with their parity failures taken as 0; none where its source is unused (R17). -/
structure PathJob where
  block : Fin 512
  taps : Nat
  history : Option (List Word)
  deriving DecidableEq, Repr

/-- R15: the computation of one slot: what it read when it began, the sum so far, and the paths still to be read;
the first of them is the one whose read is requested. -/
structure SlotComp where
  slot : Fin 96
  shift : Nat
  limit : Nat
  acc : Int
  todo : List PathJob
  deriving DecidableEq, Repr

/-- R67: what the walk, having read the channel of the slot it has reached, has to do there before it hands over. -/
inductive SlotWork where
  /-- the channel was RUN: the slot is computed (R15) -/
  | compute (c : SlotComp)
  /-- the channel was PROBE: a PROBE entry is to be handed over (R68) -/
  | probe (slot : Fin 96)
  deriving DecidableEq, Repr

/-- The Filter Pass Engine's pass record (R59) with the pass in flight. -/
structure Pass where
  stage : PassStage
  seq : Word
  walkPos : Nat
  lastOutcome : PassOutcome
  /-- R73, R76: the pass is to end after the slot or stage it stands at. -/
  ending : Option PassEnding
  /-- R57: expiries whose pass has not begun, because the pass before it has not ended. -/
  waiting : Nat
  /-- R71, R72: the duration of the pass so far, in ns. -/
  elapsedNs : Nat
  /-- R67: the slot that the walk has read and not yet finished with -/
  comp : Option SlotWork
  deriving DecidableEq, Repr

/-! ### Tap Store -/

/-- R78: the operations of the four requesters. -/
inductive BankOp where
  /-- the pass reads taps 0 to L − 1 of a block -/
  | passRead (block : Fin 512) (taps : Nat)
  /-- the adapter adds its deltas to the first taps of a block (R81) -/
  | adaptUpdate (block : Fin 512) (deltas : List Int)
  /-- the dump engine reads a whole block (R84) -/
  | dumpRead (block : Fin 512)
  /-- a block part of a TAPS read; `second` tells the two parts of a spanning frame apart (R82) -/
  | mgmtRead (second : Bool) (start count : Nat)
  /-- a block part of a TAPS write, in frame order (R82) -/
  | mgmtWrite (writes : List (Nat × Word))
  deriving DecidableEq, Repr

/-- An operation a bank has taken, with the words it read when it was taken and, for an adapter update, how many
sums were saturated (R80, R81). -/
structure UnderWay where
  op : BankOp
  words : List StoredWord
  saturated : Nat
  deriving DecidableEq, Repr

/-- R79: a bank arbiter: busy or idle, and at most one waiting operation a requester. -/
structure Bank where
  busy : Option UnderWay
  waitPass : Option BankOp
  waitAdapt : Option BankOp
  waitDump : Option BankOp
  waitMgmt : Option BankOp
  deriving DecidableEq, Repr

/-! ### Adaptation -/

/-- R91: a residual report. -/
structure Report where
  slot : Fin 96
  seq : Word
  residual : Word
  deriving DecidableEq, Repr

/-- R93: the service record; `abandon` is RESTART's mark that the walk stops after the update under way (R111). -/
structure Service where
  slot : Fin 96
  seq : Word
  residual : Word
  mu : Nat
  nMin : Nat
  pathPos : Nat
  updating : Bool
  abandon : Bool
  deriving DecidableEq, Repr

/-- R95: a slot's gain state. -/
structure Gain where
  mu : Nat
  quietRun : Nat
  last : Option Word
  deriving DecidableEq, Repr

/-! ### Slots, channels and lanes -/

/-- One Slot Table entry (R14, R66, R94, R140). -/
structure SlotEntry where
  enabled : Bool
  autoResume : Bool
  adaptation : Bool
  divisor : Nat
  phase : Nat
  shift : Nat
  limit : Nat
  muFloor : Nat
  muCeiling : Nat
  muStart : Nat
  nMin : Nat
  quiet : Nat
  burst : Nat
  deriving DecidableEq, Repr

inductive ChannelState where
  | off | probe | run | halting | halted | retired
  deriving DecidableEq, Repr

inductive HaltCause where
  | command | lane | drive
  deriving DecidableEq, Repr

/-- R139: a slot's channel record. -/
structure Channel where
  state : ChannelState
  miss : Nat
  cause : Option HaltCause
  deriving DecidableEq, Repr

/-- R126: the kind of frame an outstanding record describes. -/
inductive SentKind where
  | correct | probe | halt
  deriving DecidableEq, Repr

/-- R126: an outstanding record; its deadline is the end of its frame plus `window` µs. -/
structure OutRecord where
  kind : SentKind
  seq : Word
  window : Nat
  deriving DecidableEq, Repr

/-- R155: what a timed entry carries. -/
inductive TimedKind where
  | correct (value : Word) (clamped : Bool)
  | probe
  deriving DecidableEq, Repr

/-- R155: an entry of a lane's timed queue. -/
structure TimedEntry where
  slot : Fin 96
  seq : Word
  kind : TimedKind
  deriving DecidableEq, Repr

/-- R158: an entry of a lane's untimed queue. -/
structure HaltEntry where
  slot : Fin 96
  seq : Word
  aged : Bool
  deriving DecidableEq, Repr

/-- R116: a lane's configuration. -/
structure LaneEntry where
  divisor : Nat
  window : Nat
  errorThreshold : Nat
  deriving DecidableEq, Repr

/-- R123: a frame a lane sends. -/
inductive LaneFrame where
  | correct (slot : Fin 96) (seq value : Word) (clamped : Bool)
  | probe (slot : Fin 96) (seq : Word)
  | halt (slot : Fin 96) (seq : Word)
  deriving DecidableEq, Repr

/-- R125, R135: the frame on a lane's outgoing line; `enters` is false once RESTART has emptied the outstanding
table, so that its end enters no record. -/
structure LaneTx where
  frame : LaneFrame
  enters : Bool
  deriving DecidableEq, Repr

/-- The state of one slot lane controller (R117 to R127, R155, R158). -/
structure Lane where
  up : Bool
  /-- R118, R202: the transmitter sends the training pattern. -/
  training : Bool
  divisorInForce : Nat
  linkErrors : Nat
  timed : List TimedEntry
  untimed : List HaltEntry
  rx : Option RxFrame
  tx : Option LaneTx
  deriving DecidableEq, Repr

/-! ### Management, dump, return, notices -/

/-- R164: a management frame as S0 handed it over. -/
structure MgmtFrame where
  header : Word
  payload : List Word
  deriving DecidableEq, Repr

/-- The six reply statuses (R165). -/
inductive Status where
  | done | busy | state | range | plan | format
  deriving DecidableEq, Repr

/-- R198: a REPLY; `startsDump` marks the reply of an accepted DUMP, whose placing requests the first block
(R176). -/
structure Reply where
  tag : Word
  status : Status
  parityPos : Option Nat
  offset : Option Nat
  data : List Word
  startsDump : Bool
  deriving DecidableEq, Repr

/-- How far the frame in execution is (R165). -/
inductive Phase where
  /-- taken; its checks and effects are to come -/
  | taken
  /-- its effects are complete; the reply is known -/
  | finished (r : Reply)
  /-- a TAPS write with this many parts not yet complete (R82) -/
  | writing (left : Nat)
  /-- a TAPS read: the words of the first and the second part, none while a part is not complete (R82) -/
  | reading (first second : Option (List StoredWord))
  /-- a COUNTERS or STATUS read, with the words read so far (R171, R186) -/
  | collecting (words : List Word)
  /-- RESTART, waiting for the work it lets finish (R174) -/
  | restarting
  deriving DecidableEq, Repr

/-- R165: the state of the Management Unit. -/
inductive Mgmt where
  | idle
  | executing (f : MgmtFrame) (ph : Phase)
  | holding (r : Reply)
  deriving DecidableEq, Repr

inductive DumpState where
  | idle | reading | holding | finishing
  deriving DecidableEq, Repr

/-- R178: a DUMP frame. -/
structure DumpFrame where
  block : Fin 512
  parity : Bool
  last : Bool
  aborted : Bool
  taps : List Word
  deriving DecidableEq, Repr

/-- R175: the dump engine; `held` is the frame of the state holding, `aborting` RESTART's mark while a block read
it lets complete is under way (R180). -/
structure Dump where
  state : DumpState
  next : Fin 512
  last : Fin 512
  held : Option DumpFrame
  aborting : Bool
  deriving DecidableEq, Repr

/-- R188: the 13 notice kinds. -/
inductive NoticeKind where
  | portUp | portDown | laneUp | laneDown | channelState | slotOverrun | haltUnanswered | passOverrun | parity
  | mgmtDrop | adaptDrop | dumpDone | counterFull
  deriving DecidableEq, Repr

/-- R189: an entry of the notice list. -/
structure Notice where
  kind : NoticeKind
  index : Nat
  count : Nat
  deriving DecidableEq, Repr

/-- R182: what the return line transmits. -/
inductive ReturnFrame where
  | reply (r : Reply)
  | notice (n : Notice)
  | dump (d : DumpFrame)
  deriving DecidableEq, Repr

/-- R181: the transmit side of S0's line. -/
structure Return where
  line : Option ReturnFrame
  replyPlace : Option Reply
  dumpPlace : Option DumpFrame
  deriving DecidableEq, Repr

/-! ### Counters -/

/-- R185: the counters of a port entry, in word order. -/
inductive PortCtr where
  | received | valid | damaged | short | babble | format
  deriving DecidableEq, Repr

/-- R185: the counters of a lane entry, in word order. -/
inductive LaneCtr where
  | sent | matched | unmatched | damaged | short | babble | format
  deriving DecidableEq, Repr

/-- R185: the counters of a slot entry, in word order. -/
inductive SlotCtr where
  | clamp | adapted | late | stale | sequence | saturation | overrun | miss | defer | fault | haltTimeout
  deriving DecidableEq, Repr

/-- R185: the global counters, in word order. -/
inductive GlobalCtr where
  | passOverrun | reportDrops | mgmtDrops | parityE | parityO | parityH
  deriving DecidableEq, Repr

/-- R185: one counter of the part. -/
inductive CounterId where
  | port (p : Fin 8) (c : PortCtr)
  | lane (l : Fin 4) (c : LaneCtr)
  | slot (s : Fin 96) (c : SlotCtr)
  | global (c : GlobalCtr)
  deriving DecidableEq, Repr

/-- R184, R185: every counter, by group, in the word order of the COUNTERS table. -/
structure Counters where
  port : Vector (Vector Word 6) 8
  lane : Vector (Vector Word 7) 4
  slot : Vector (Vector Word 11) 96
  global : Vector Word 6
  deriving DecidableEq, Repr

/-- R88: the sticky parity flags of banks E, O and H. -/
structure ParityFlags where
  e : Bool
  o : Bool
  h : Bool
  deriving DecidableEq, Repr

/-! ### The state -/

/-- Everything the spec gives the part, and the queue of commands that wait. -/
structure State where
  /-- RESET_N is held low (R201, R202) -/
  resetHeld : Bool
  /-- R31 -/
  portTable : Vector PortEntry 8
  ports : Vector Port 8
  /-- R44 -/
  sourceTable : Vector SourceEntry 48
  /-- R47 -/
  latches : Vector Latch 48
  /-- R61: position i of source q's ring at address q × 48 + i -/
  history : Store
  pushPos : Nat
  /-- R53: the device is RUNNING -/
  running : Bool
  /-- R54: P as last accepted -/
  period : Nat
  /-- R54, R57: the length of the interval in progress, none while the timer does not run -/
  timer : Option Nat
  /-- R58: the current sequence -/
  seq : Word
  pass : Pass
  /-- R2: the current Path Table -/
  pathTable : Vector PathEntry 384
  /-- R10: the pending path updates, oldest first -/
  pathPending : List (Fin 384 × PathEntry)
  /-- R77: tap k of block b at address b × 32 + k -/
  taps : Store
  bankE : Bank
  bankO : Bank
  parityFlags : ParityFlags
  /-- R91: the report queue, oldest first -/
  reports : List Report
  /-- R93: none while the engine is idle -/
  engine : Option Service
  gain : Vector Gain 96
  slotTable : Vector SlotEntry 96
  channels : Vector Channel 96
  /-- R126: the outstanding record of each slot, in the table of its lane -/
  outstanding : Vector (Option OutRecord) 96
  /-- R116 -/
  laneTable : Vector LaneEntry 4
  lanes : Vector Lane 4
  counters : Counters
  /-- R164: the management input queue, oldest first -/
  mgmtQueue : List MgmtFrame
  mgmt : Mgmt
  dump : Dump
  ret : Return
  /-- R189: the notice list, oldest first -/
  notices : List Notice
  /-- R191: the mask by kind number, true for on -/
  noticeMask : Vector Bool 13
  /-- the MODEL's own: entries to UP so far, the argument of the free value Config.resumeRank -/
  resumes : Nat
  /-- the MODEL's own: the commands that wait, first in, first out -/
  pending : List Instr
  deriving DecidableEq, Repr

/-- Faults: none. The part has no condition that stops it, so no command of the model raises one. -/
inductive Fault where
  deriving DecidableEq, Repr

/-- Refusals: the one that exec's own arms may raise. -/
inductive Refusal where
  /-- raised by an arm of exec for a command that has no meaning yet; no arm raises it now. Safe. -/
  | notModelled (mnemonic : String)
  deriving DecidableEq, Repr

/-! ### Reset -/

/-- R31: a Port Table entry after power-on reset. -/
def PortEntry.reset : PortEntry where
  enabled := false
  acceptDamaged := false
  strict := false
  passThreshold := 8
  watchdogSpan := 10
  minRate := 0
  rateHysteresis := 2
  stableGates := 2
  errorThreshold := 8

/-- R32: a port after power-on reset, in the given state. -/
def Port.reset (mode : PortMode) (training : Bool) : Port where
  mode := mode
  training := training
  run := 0
  linkErrors := 0
  watchdog := none
  gate := none
  rate := 0
  stableRun := 0
  stable := false
  rx := none

/-- R44. -/
def SourceEntry.reset : SourceEntry where
  kind := .unused
  port := 0
  node := 0
  channel := 0
  slot := 0
  invert := false
  holdLimit := 8

/-- R47: also what RESTART and a change of mapping (R46) set. -/
def Latch.reset : Latch where
  value := 0
  age := 255
  fresh := false

/-- R2. -/
def PathEntry.reset : PathEntry where
  state := .unused
  slot := 0
  source := 0
  block := 0
  taps := 1
  delay := 0
  adaptive := false

/-- R59. -/
def Pass.reset : Pass where
  stage := .idle
  seq := 0
  walkPos := 0
  lastOutcome := .none
  ending := none
  waiting := 0
  elapsedNs := 0
  comp := none

/-- R79: idle with an empty waiting set. -/
def Bank.reset : Bank where
  busy := none
  waitPass := none
  waitAdapt := none
  waitDump := none
  waitMgmt := none

/-- R95. -/
def Gain.reset : Gain where
  mu := 16
  quietRun := 0
  last := none

/-- R14, R66, R94, R140. -/
def SlotEntry.reset : SlotEntry where
  enabled := false
  autoResume := false
  adaptation := false
  divisor := 1
  phase := 0
  shift := 0
  limit := 32767
  muFloor := 16
  muCeiling := 16
  muStart := 16
  nMin := 20
  quiet := 0
  burst := 32767

/-- R139. -/
def Channel.reset : Channel where
  state := .off
  miss := 0
  cause := none

/-- R116. -/
def LaneEntry.reset : LaneEntry where
  divisor := 3
  window := 20
  errorThreshold := 8

/-- R118, R202: a lane after power-on reset; it trains from the release on. -/
def Lane.reset (training : Bool) : Lane where
  up := false
  training := training
  divisorInForce := 3
  linkErrors := 0
  timed := []
  untimed := []
  rx := none
  tx := none

/-- R175; the record's values are log entry 21's. -/
def Dump.reset : Dump where
  state := .idle
  next := 0
  last := 0
  held := none
  aborting := false

/-- R181. -/
def Return.reset : Return where
  line := none
  replyPlace := none
  dumpPlace := none

/-- R184. -/
def Counters.reset : Counters where
  port := Vector.replicate 8 (Vector.replicate 6 0)
  lane := Vector.replicate 4 (Vector.replicate 7 0)
  slot := Vector.replicate 96 (Vector.replicate 11 0)
  global := Vector.replicate 6 0

/-- The part right after power-on reset has been released (log entry 3): every block at its power-on value, S0's
receiver and the lanes training (R201, R202). -/
def State.reset : State where
  resetHeld := false
  portTable := Vector.replicate 8 PortEntry.reset
  ports := (Vector.replicate 8 (Port.reset .off false)).set 0 (Port.reset .dark true)
  sourceTable := Vector.replicate 48 SourceEntry.reset
  latches := Vector.replicate 48 Latch.reset
  history := []
  pushPos := 0
  running := false
  period := 40
  timer := none
  seq := 0
  pass := Pass.reset
  pathTable := Vector.replicate 384 PathEntry.reset
  pathPending := []
  taps := []
  bankE := Bank.reset
  bankO := Bank.reset
  parityFlags := ⟨false, false, false⟩
  reports := []
  engine := none
  gain := Vector.replicate 96 Gain.reset
  slotTable := Vector.replicate 96 SlotEntry.reset
  channels := Vector.replicate 96 Channel.reset
  outstanding := Vector.replicate 96 none
  laneTable := Vector.replicate 4 LaneEntry.reset
  lanes := Vector.replicate 4 (Lane.reset true)
  counters := Counters.reset
  mgmtQueue := []
  mgmt := .idle
  dump := Dump.reset
  ret := Return.reset
  notices := []
  noticeMask := Vector.replicate 13 false
  resumes := 0
  pending := []

end Machine
end Sys2Proof
end

