-- ==== Sys2Proof/Machine/Bits.lean ====
section
/-! DEFINITION. Bit fields, sequence arithmetic, saturation, the CRC and the header word. -/

namespace Sys2Proof
namespace Machine

/-- The field of w in bits hi to lo, an unsigned number (R194). -/
def bits (w : Word) (hi lo : Nat) : Nat := w.toNat / 2 ^ lo % 2 ^ (hi + 1 - lo)

/-- Bit i of w as a yes or no field (R199). -/
def flag (w : Word) (i : Nat) : Bool := bits w i i == 1

/-- A yes or no field as a number. -/
def num (b : Bool) : Nat := if b then 1 else 0

/-- A word of the given number; the layouts add fields up by their place values. -/
def mkWord (n : Nat) : Word := BitVec.ofNat 16 n

/-- n as a number below k, where it is one. -/
def toFin (k n : Nat) : Option (Fin k) := if h : n < k then some ⟨n, h⟩ else none

/-- 00_scope, Sequence numbers; R100: r is newer than a when (r − a) modulo 65536 lies in 1 to 32767. -/
def newer (r a : Word) : Bool := 1 ≤ (r - a).toNat && (r - a).toNat ≤ 32767

/-- 00_scope, Sequence numbers: the lateness of r at current sequence c. -/
def lateness (r c : Word) : Nat := (c - r).toNat

/-- 00_scope, Saturation. -/
def clampInt (lo hi x : Int) : Int := max lo (min hi x)

/-- A signed 16-bit value saturated to its range (R50, R107). -/
def satWord (x : Int) : Word := BitVec.ofInt 16 (clampInt (-32768) 32767 x)

/-- Whether x lies outside the signed 16-bit range, so that satWord changes it. -/
def saturates (x : Int) : Bool := x < -32768 || 32767 < x

/-- 00_scope, Absolute value: the magnitude of −32768 is 32768. -/
def magnitude (e : Word) : Nat := e.toInt.natAbs

/-- One bit of the CRC (R195 step 2). -/
def crcBit (reg : Word) (b : Bool) : Word :=
  if reg.msb == b then reg <<< 1 else (reg <<< 1) ^^^ 4129

/-- Bits i − 1 down to 0 of a word into the CRC. -/
def crcBits (w : Word) : Nat → Word → Word
  | 0, reg => reg
  | i + 1, reg => crcBits w i (crcBit reg (w.getLsbD i))

/-- R195: the CRC over the header and payload words. -/
def crc16 (ws : List Word) : Word := ws.foldl (fun reg w => crcBits w 16 reg) 65535

/-- R194: kind, address and payload length of a header word. -/
def headerKind (h : Word) : Nat := bits h 15 12
def headerAddress (h : Word) : Nat := bits h 11 5
def headerLength (h : Word) : Nat := bits h 4 0

/-- R194: a header word of any kind but DUMP. -/
def header (kind address length : Nat) : Word := mkWord (kind * 4096 + address * 32 + length)

/-- A frame's words: header, payload, CRC (R194). -/
def withCrc (ws : List Word) : List Word := ws ++ [crc16 ws]

/-- R197: the words of a frame to a drive. -/
def LaneFrame.words : LaneFrame → List Word
  | .correct slot seq value clamped => withCrc [header 5 slot.1 3, seq, value, mkWord (num clamped)]
  | .probe slot seq => withCrc [header 6 slot.1 1, seq]
  | .halt slot seq => withCrc [header 7 slot.1 1, seq]

/-- The slot a frame is addressed to. -/
def LaneFrame.slot : LaneFrame → Fin 96
  | .correct slot _ _ _ => slot
  | .probe slot _ => slot
  | .halt slot _ => slot

/-- R126: the kind and the sequence an outstanding record takes from its frame. -/
def LaneFrame.sentKind : LaneFrame → SentKind
  | .correct _ _ _ _ => .correct
  | .probe _ _ => .probe
  | .halt _ _ => .halt

def LaneFrame.seq : LaneFrame → Word
  | .correct _ seq _ _ => seq
  | .probe _ seq => seq
  | .halt _ seq => seq

/-- R117: one word time of a lane at a line divisor, in ns. -/
def laneWordNs (divisor : Nat) : Nat := Config.laneWordNs * (divisor + 1)

/-- R117: a frame of w words occupies the line for w + 2 word times. -/
def laneFrameNs (divisor : Nat) (f : LaneFrame) : Nat := (f.words.length + 2) * laneWordNs divisor

/-- R198: the status codes. -/
def Status.code : Status → Nat
  | .done => 0
  | .busy => 1
  | .state => 2
  | .range => 3
  | .plan => 4
  | .format => 5

/-- R198: the status word of a REPLY. -/
def Reply.statusWord (r : Reply) : Word :=
  mkWord (num r.parityPos.isSome * 32768 + num r.offset.isSome * 16384 + r.parityPos.getD 0 * 256 + r.status.code)

/-- R198: the payload of a REPLY: tag, status word, then the failing offset or the data. -/
def Reply.payload (r : Reply) : List Word :=
  r.tag :: r.statusWord :: (r.offset.toList.map mkWord ++ r.data)

/-- R188: the kind numbers. -/
def NoticeKind.number : NoticeKind → Fin 13
  | .portUp => 0
  | .portDown => 1
  | .laneUp => 2
  | .laneDown => 3
  | .channelState => 4
  | .slotOverrun => 5
  | .haltUnanswered => 6
  | .passOverrun => 7
  | .parity => 8
  | .mgmtDrop => 9
  | .adaptDrop => 10
  | .dumpDone => 11
  | .counterFull => 12

/-- R198: the words of a frame on the S0 return. -/
def ReturnFrame.words : ReturnFrame → List Word
  | .reply r => withCrc (header 9 0 r.payload.length :: r.payload)
  | .notice n => withCrc [header 10 0 2, mkWord (n.kind.number.1 * 4096 + n.index), mkWord n.count]
  | .dump d =>
      withCrc (mkWord (11 * 4096 + num d.parity * 2048 + num d.last * 1024 + num d.aborted * 512 + d.block.1) ::
        (if d.aborted then [] else d.taps))

/-- R181: a frame of w words occupies the return line for w + 2 word times of 0.16 µs. -/
def returnFrameNs (f : ReturnFrame) : Nat := (f.words.length + 2) * Config.returnWordNs

end Machine
end Sys2Proof
end

