-- ==== Sys2Proof/Machine/Store.lean ====
section
/-! DEFINITION. The addressed stores (taps and histories) and pointwise changes of a table. -/

namespace Sys2Proof
namespace Machine

/-- R77, R61: what power-on reset leaves in every word, and what an unlisted address reads: 0 with good parity. -/
def StoredWord.zero : StoredWord := ⟨0, true⟩

/-- A word as it is written: with good parity (R77, R62). -/
def StoredWord.written (v : Word) : StoredWord := ⟨v, true⟩

/-- The word at an address. -/
def Store.read (m : Store) (a : Nat) : StoredWord :=
  match m with
  | [] => StoredWord.zero
  | (b, w) :: rest => if a = b then w else Store.read rest a

/-- Put w at a, keeping addresses rising and listing nothing that equals what an unlisted address reads. -/
def Store.put (m : Store) (a : Nat) (w : StoredWord) : Store :=
  match m with
  | [] => if w = StoredWord.zero then [] else [(a, w)]
  | (b, v) :: rest =>
      if a < b then (if w = StoredWord.zero then (b, v) :: rest else (a, w) :: (b, v) :: rest)
      else if a = b then (if w = StoredWord.zero then rest else (a, w) :: rest)
      else (b, v) :: Store.put rest a w

/-- A write stores the value with good parity, whatever the parity of what it replaces (R77). -/
def Store.write (m : Store) (a : Nat) (v : Word) : Store := Store.put m a (StoredWord.written v)

/-- The words at start, start + 1, ..., as many as count says. -/
def Store.readRange (m : Store) (start : Nat) : Nat → List StoredWord
  | 0 => []
  | n + 1 => Store.read m start :: Store.readRange m (start + 1) n

/-- Write the values at start, start + 1, ... -/
def Store.writeRange (m : Store) (start : Nat) : List Word → Store
  | [] => m
  | v :: vs => Store.writeRange (Store.write m start v) (start + 1) vs

/-- Write the values at their addresses, in the order of the list (R82). -/
def Store.writeAll (m : Store) : List (Nat × Word) → Store
  | [] => m
  | (a, v) :: rest => Store.writeAll (Store.write m a v) rest

/-- The canonical form: addresses strictly rising, and nothing listed that equals what an unlisted address reads. -/
def Store.wf : Store → Bool
  | [] => true
  | [(_, w)] => w != StoredWord.zero
  | (a, w) :: (b, v) :: rest => a < b && w != StoredWord.zero && Store.wf ((b, v) :: rest)

/-! ### Pointwise change of a table -/

/-- The list with f applied to each member and its number. -/
def mapFrom {α β : Type} (f : Nat → α → β) : Nat → List α → List β
  | _, [] => []
  | i, x :: xs => f i x :: mapFrom f (i + 1) xs

theorem mapFrom_length {α β : Type} (f : Nat → α → β) (i : Nat) (xs : List α) :
    (mapFrom f i xs).length = xs.length := by
  induction xs generalizing i with
  | nil => rfl
  | cons x xs ih => simp [mapFrom, ih]

/-- The table with f applied to each entry and its number. -/
def mapEntries {α β : Type} {n : Nat} (f : Nat → α → β) (v : Vector α n) : Vector β n :=
  ⟨⟨mapFrom f 0 v.toList⟩, by simp [mapFrom_length]⟩

/-- The first entry, from the one numbered i on, that p accepts, with its number. -/
def findFrom {α : Type} (p : α → Bool) : Nat → List α → Option (Nat × α)
  | _, [] => none
  | i, x :: xs => if p x then some (i, x) else findFrom p (i + 1) xs

end Machine
end Sys2Proof
end

