-- ==== Sys2Proof/Machine/Operands.lean ====
section
/-! DEFINITION. The operands of the management commands: the words of a frame (R196), the offsets it addresses
(R166, R167), and the word layouts of the table entries (R199). -/

namespace Sys2Proof
namespace Machine

/-! ### Frames (R196) -/

/-- Payload word i of a frame. -/
def MgmtFrame.word (f : MgmtFrame) (i : Nat) : Word := f.payload.getD i 0

/-- R196: the tag, 0 where the payload holds no word. -/
def MgmtFrame.tag (f : MgmtFrame) : Word := f.word 0

def MgmtFrame.kind (f : MgmtFrame) : Nat := headerKind f.header

/-- The table code of an MWRITE or MREAD. -/
def MgmtFrame.table (f : MgmtFrame) : Nat := bits (f.word 1) 15 12

/-- Bit 11: the auto-increment flag of an MWRITE, the clear flag of an MREAD. -/
def MgmtFrame.flag11 (f : MgmtFrame) : Bool := flag (f.word 1) 11

/-- The count n of an MREAD. -/
def MgmtFrame.count (f : MgmtFrame) : Nat := bits (f.word 1) 4 0

/-- The starting offset o. -/
def MgmtFrame.offset (f : MgmtFrame) : Nat := (f.word 2).toNat

/-- The data words of an MWRITE. -/
def MgmtFrame.data (f : MgmtFrame) : List Word := f.payload.drop 3

/-- R196: the two arguments of an MACT, where present. -/
def MgmtFrame.arg1 (f : MgmtFrame) : Option Nat := (f.payload[2]?).map BitVec.toNat
def MgmtFrame.arg2 (f : MgmtFrame) : Option Nat := (f.payload[3]?).map BitVec.toNat

/-- The rows of the table that execute a management frame. -/
inductive MgmtRow where
  | mwritePort | mwriteSource | mwriteSlot | mwritePath | mwriteTaps | mwrite
  | mread | mreadTaps | mreadCountersClear
  | run | stop | restart | startSlot | haltSlot | releaseSlot | gainRestart | clearParity | dump | laneReset | portReset
  deriving DecidableEq, Repr

/-- R196: the action that an action code names. -/
def actionRow (code : Nat) : Option MgmtRow :=
  match code with
  | 1 => some .run
  | 2 => some .stop
  | 3 => some .restart
  | 4 => some .startSlot
  | 5 => some .haltSlot
  | 6 => some .releaseSlot
  | 7 => some .gainRestart
  | 8 => some .clearParity
  | 9 => some .dump
  | 10 => some .laneReset
  | 11 => some .portReset
  | _ => none

/-- The row that executes a frame: a frame too short for its table, or with a table of no row, is the plain MWRITE's
or MREAD's. An MACT of a length or a code that R196 refuses has no row (log entry 16). -/
def rowOf (f : MgmtFrame) : Option MgmtRow :=
  match f.kind with
  | 2 =>
      if f.payload.length < 3 then some .mwrite
      else match f.table with
        | 1 => some .mwritePort
        | 2 => some .mwriteSource
        | 3 => some .mwriteSlot
        | 4 => some .mwritePath
        | 5 => some .mwriteTaps
        | _ => some .mwrite
  | 3 =>
      if f.payload.length ≠ 3 then some .mread
      else if f.table = 5 then some .mreadTaps
      else if f.table = 6 ∧ f.flag11 then some .mreadCountersClear
      else some .mread
  | 4 => if f.payload.length < 2 ∨ 4 < f.payload.length then none else actionRow (f.word 1).toNat
  | _ => none

/-! ### Addressed offsets (R166 to R168, R199) -/

/-- R199: the entries and the width of a table. -/
def tableSize (code : Nat) : Option (Nat × Nat) :=
  match code with
  | 1 => some (12, 4)
  | 2 => some (48, 2)
  | 3 => some (96, 6)
  | 4 => some (384, 3)
  | 5 => some (16384, 1)
  | 6 => some (109, 12)
  | 7 => some (157, 9)
  | 8 => some (13, 1)
  | _ => none

/-- R167, R196: an MWRITE is refused with FORMAT where its fixed words are missing, or k is 0 or above 28. -/
def MgmtFrame.writeFormatOk (f : MgmtFrame) : Bool :=
  3 ≤ f.payload.length && 1 ≤ f.data.length && f.data.length ≤ 28

/-- R167: the last offset an MWRITE addresses. -/
def MgmtFrame.lastOffset (f : MgmtFrame) : Nat := if f.flag11 then f.offset + f.data.length - 1 else f.offset

/-- R167: the word a frame supplies for an offset, the last one where it supplies several. -/
def MgmtFrame.supplied (f : MgmtFrame) (off : Nat) : Option Word :=
  if f.flag11 then (if f.offset ≤ off then f.data[off - f.offset]? else none)
  else if off = f.offset then f.data.getLast? else none

/-- R167: whether a write touches an entry of the given width. -/
def MgmtFrame.touches (f : MgmtFrame) (width e : Nat) : Bool := f.offset / width ≤ e && e ≤ f.lastOffset / width

/-- R167: the touched entries, ascending. -/
def MgmtFrame.touched (f : MgmtFrame) (width : Nat) : List Nat :=
  List.range' (f.offset / width) (f.lastOffset / width + 1 - f.offset / width)

/-- R7, R167: an entry assembled from its reference image and the words a frame supplies. -/
def MgmtFrame.assemble (f : MgmtFrame) (width e : Nat) (base : List Word) : List Word :=
  mapFrom (fun j w => (f.supplied (e * width + j)).getD w) 0 base

/-- R168: the first addressed offset beyond a table of the given size, if any. -/
def beyond (first last size : Nat) : Option Nat := if size ≤ last then some (max first size) else none

/-- R168: the first addressed offset, in frame order, that lies in an entry. -/
def MgmtFrame.offsetIn (f : MgmtFrame) (width e : Nat) : Nat := max f.offset (e * width)

/-! ### Entry layouts (R199) -/

/-- Word i of an entry's words. -/
def entryWord (ws : List Word) (i : Nat) : Word := ws.getD i 0

def PortEntry.toWords (e : PortEntry) : List Word :=
  [mkWord (num e.enabled * 32768 + num e.acceptDamaged * 16384 + num e.strict * 8192 + e.passThreshold * 16 +
     e.errorThreshold),
   mkWord e.watchdogSpan, mkWord e.minRate, mkWord (e.rateHysteresis * 16 + e.stableGates)]

/-- R31: the ranges of a Port Table entry. -/
def PortEntry.inRange (e : PortEntry) : Bool :=
  1 ≤ e.passThreshold && e.passThreshold ≤ 15 && 1 ≤ e.watchdogSpan && e.watchdogSpan ≤ 255 && e.minRate ≤ 4095 &&
    e.rateHysteresis ≤ 15 && 1 ≤ e.stableGates && e.stableGates ≤ 4 && 1 ≤ e.errorThreshold && e.errorThreshold ≤ 15

def PortEntry.ofWords (ws : List Word) : Option PortEntry :=
  let w := entryWord ws
  let e : PortEntry :=
    { enabled := flag (w 0) 15, acceptDamaged := flag (w 0) 14, strict := flag (w 0) 13,
      passThreshold := bits (w 0) 7 4, watchdogSpan := bits (w 1) 7 0, minRate := bits (w 2) 11 0,
      rateHysteresis := bits (w 3) 7 4, stableGates := bits (w 3) 2 0, errorThreshold := bits (w 0) 3 0 }
  if e.inRange then some e else none

def LaneEntry.toWords (e : LaneEntry) : List Word :=
  [mkWord e.divisor, mkWord e.window, mkWord e.errorThreshold, 0]

/-- R116: the ranges of a lane entry. -/
def LaneEntry.inRange (e : LaneEntry) : Bool :=
  e.divisor ≤ 15 && 2 ≤ e.window && e.window ≤ 60 && 1 ≤ e.errorThreshold && e.errorThreshold ≤ 15

def LaneEntry.ofWords (ws : List Word) : Option LaneEntry :=
  let w := entryWord ws
  let e : LaneEntry := { divisor := bits (w 0) 3 0, window := bits (w 1) 5 0, errorThreshold := bits (w 2) 3 0 }
  if e.inRange then some e else none

def SourceKind.code : SourceKind → Nat
  | .unused => 0
  | .sensor => 1
  | .aggressor => 2

def SourceKind.ofCode (n : Nat) : Option SourceKind :=
  match n with
  | 0 => some .unused
  | 1 => some .sensor
  | 2 => some .aggressor
  | _ => none

def SourceEntry.toWords (e : SourceEntry) : List Word :=
  [mkWord (e.kind.code * 16384 + num e.invert * 8192 + e.port.1 * 1024 + e.node.1 * 32 + e.channel.1),
   mkWord (e.slot.1 * 256 + e.holdLimit)]

/-- R44: the ranges of a Source Table entry that its type does not bound. -/
def SourceEntry.inRange (e : SourceEntry) : Bool := e.holdLimit ≤ 255

def SourceEntry.ofWords (ws : List Word) : Option SourceEntry :=
  let w := entryWord ws
  match SourceKind.ofCode (bits (w 0) 15 14), toFin 8 (bits (w 0) 12 10), toFin 32 (bits (w 0) 9 5),
      toFin 31 (bits (w 0) 4 0), toFin 96 (bits (w 1) 14 8) with
  | some kind, some port, some node, some channel, some slot =>
      some { kind, port, node, channel, slot, invert := flag (w 0) 13, holdLimit := bits (w 1) 7 0 }
  | _, _, _, _, _ => none

def SlotEntry.toWords (e : SlotEntry) : List Word :=
  [mkWord (num e.enabled * 32768 + num e.autoResume * 16384 + num e.adaptation * 8192 + e.divisor * 256 + e.phase * 16 +
     e.shift),
   mkWord e.limit, mkWord (e.muFloor * 256 + e.muCeiling), mkWord (e.muStart * 256 + e.nMin), mkWord e.quiet,
   mkWord e.burst]

/-- R14, R66, R94: the ranges of a Slot Table entry, the phase below its divisor, floor ≤ start ≤ ceiling. -/
def SlotEntry.inRange (e : SlotEntry) : Bool :=
  (e.divisor == 1 || e.divisor == 2 || e.divisor == 4) && e.phase < e.divisor && e.shift ≤ 15 && 1 ≤ e.limit &&
    e.limit ≤ 32767 && 1 ≤ e.muFloor && e.muFloor ≤ e.muStart && e.muStart ≤ e.muCeiling && e.muCeiling ≤ 255 &&
    8 ≤ e.nMin && e.nMin ≤ 40 && e.quiet ≤ 32767 && e.burst ≤ 32767

def SlotEntry.ofWords (ws : List Word) : Option SlotEntry :=
  let w := entryWord ws
  let e : SlotEntry :=
    { enabled := flag (w 0) 15, autoResume := flag (w 0) 14, adaptation := flag (w 0) 13, divisor := bits (w 0) 10 8,
      phase := bits (w 0) 5 4, shift := bits (w 0) 3 0, limit := bits (w 1) 14 0, muFloor := bits (w 2) 15 8,
      muCeiling := bits (w 2) 7 0, muStart := bits (w 3) 15 8, nMin := bits (w 3) 5 0, quiet := bits (w 4) 14 0,
      burst := bits (w 5) 14 0 }
  if e.inRange then some e else none

def PathState.code : PathState → Nat
  | .unused => 0
  | .enabled => 1
  | .disabled => 2

def PathState.ofCode (n : Nat) : Option PathState :=
  match n with
  | 0 => some .unused
  | 1 => some .enabled
  | 2 => some .disabled
  | _ => none

def PathEntry.toWords (e : PathEntry) : List Word :=
  [mkWord (e.state.code * 16384 + num e.adaptive * 8192 + e.delay),
   mkWord (e.slot.1 * 256 + e.source.1), mkWord (e.taps * 1024 + e.block.1)]

/-- R2: the ranges of a Path Table entry that its type does not bound. -/
def PathEntry.inRange (e : PathEntry) : Bool := 1 ≤ e.taps && e.taps ≤ 32 && e.delay ≤ 7

def PathEntry.ofWords (ws : List Word) : Option PathEntry :=
  let w := entryWord ws
  match PathState.ofCode (bits (w 0) 15 14), toFin 96 (bits (w 1) 14 8), toFin 48 (bits (w 1) 5 0),
      toFin 512 (bits (w 2) 8 0) with
  | some state, some slot, some source, some block =>
      let e : PathEntry :=
        { state, slot, source, block, taps := bits (w 2) 15 10, delay := bits (w 0) 2 0, adaptive := flag (w 0) 13 }
      if e.inRange then some e else none
  | _, _, _, _ => none

end Machine
end Sys2Proof
end

