-- ==== Sys2Proof/Machine/Flags.lean ====
section
/-! DEFINITION. The arithmetic of the correction (chapter 1) and of the adaptation (chapter 5), and the tests that
decide a flag, a count or a state: clamped, saturated, quiet, stable. -/

namespace Sys2Proof
namespace Machine

/-! ### The correction (R16 to R20) -/

/-- R16: the exact sum of the products of coefficients and history values. -/
def dot : List Word → List Word → Int
  | c :: cs, x :: xs => c.toInt * x.toInt + dot cs xs
  | _, _ => 0

/-- R17: the contribution of a path: zero where its source is unused or its coefficients failed parity. -/
def contribution (job : PathJob) (read : List StoredWord) : Int :=
  match job.history with
  | none => 0
  | some xs => if read.all (·.good) then dot (read.map (·.value)) xs else 0

/-- R19: the slot sum over 2^(15 + s), rounded to nearest with ties toward plus infinity. -/
def rawCorrection (shift : Nat) (a : Int) : Int := (a + 2 ^ (14 + shift)) / 2 ^ (15 + shift)

/-- R20: whether the raw correction lies outside −Lim to Lim. -/
def isClamped (limit : Nat) (u : Int) : Bool := u < -(limit : Int) || (limit : Int) < u

/-- R20: the correction. -/
def correction (limit : Nat) (u : Int) : Int := clampInt (-(limit : Int)) limit u

/-! ### The adaptation (R104 to R110) -/

/-- R104: the sum of squares of the history values. -/
def energy : List Word → Nat
  | [] => 0
  | x :: xs => magnitude x * magnitude x + energy xs

/-- R105 step 1: the bit length of a nonzero energy. -/
def bitLength (e : Nat) : Nat := if e = 0 then 0 else Nat.log2 e + 1

/-- R105: the normalization exponent N'. -/
def normExponent (nMin e : Nat) : Nat := max (bitLength e) nMin

/-- R106: the delta of one tap. -/
def delta (mu n : Nat) (e x : Word) : Int :=
  ((mu : Int) * (e.toInt * x.toInt) + 2 ^ (n - 8)) / 2 ^ (n - 7)

/-- R81 step 3: taps and deltas added, each sum exact. -/
def tapSums : List StoredWord → List Int → List Int
  | w :: ws, d :: ds => (w.value.toInt + d) :: tapSums ws ds
  | _, _ => []

/-- R110: one step of the gain schedule. -/
def gainStep (e : SlotEntry) (residual : Word) (g : Gain) : Gain :=
  if e.burst ≤ magnitude residual then { g with mu := min e.muCeiling (2 * g.mu), quietRun := 0 }
  else if magnitude residual < e.quiet then
    if g.quietRun + 1 < 16 then { g with quietRun := g.quietRun + 1 }
    else { g with mu := max e.muFloor (g.mu / 2), quietRun := 0 }
  else { g with quietRun := 0 }

/-- R96: mu saturated into the range from floor to ceiling. -/
def clampMu (e : SlotEntry) (mu : Nat) : Nat := max e.muFloor (min e.muCeiling mu)

/-! ### Ports and sources -/

/-- R34: the three conditions for entry to PASSING. -/
def canPass (e : PortEntry) (q : Port) : Bool :=
  e.passThreshold ≤ q.run && q.stable && e.minRate ≤ q.rate

/-- R42: measured rate and stable run after a gate with count f. The stable gates are read at the gate end (R31), so
that a write of them shows at the next one (log entry 30). -/
def gateMeasure (e : PortEntry) (q : Port) (f : Nat) : Port :=
  let m : Port :=
    if e.rateHysteresis < f - q.rate ∨ e.rateHysteresis < q.rate - f then { q with rate := f, stableRun := 0 }
    else { q with stableRun := min 4 (q.stableRun + 1) }
  { m with stable := e.stableGates ≤ m.stableRun }

/-- R50: a latch takes a value. -/
def latchTake (e : SourceEntry) (v : Word) : Latch where
  value := if e.invert then satWord (-v.toInt) else v
  age := 0
  fresh := true

/-- R51: the value a source yields at a push. -/
def latchYield (e : SourceEntry) (q : Latch) : Word :=
  if e.kind ≠ .unused ∧ q.age ≤ e.holdLimit then q.value else 0

/-- R51: the latch after a push. -/
def latchStep (q : Latch) : Latch := { q with age := min 255 (q.age + 1), fresh := false }

/-- R65: whether a slot is selected in the pass with sequence n. -/
def selected (e : SlotEntry) (c : Channel) (n : Word) : Bool :=
  e.enabled && (c.state == .run || c.state == .probe) && n.toNat % e.divisor == e.phase

end Machine
end Sys2Proof
end

