-- ==== Sys2Proof/Machine/Ops.lean ====
section
/-! DEFINITION. The shared operations: bank arbiters, the dump's requests, the return arbiter, notices, counters and
parity. -/

namespace Sys2Proof
namespace Machine

/-! ### Bank arbiters (R77 to R84) -/

/-- R77: block b lives in bank E when b is even. -/
def bankOf (block : Nat) : BankId := if block % 2 = 0 then .e else .o

def State.bank (s : State) : BankId → Bank
  | .e => s.bankE
  | .o => s.bankO

def State.setBank (s : State) (b : BankId) (k : Bank) : State :=
  match b with
  | .e => { s with bankE := k }
  | .o => { s with bankO := k }

/-- R72: n taps written, counted toward the pass in flight when the write is taken. -/
def countTapWrites (n : Nat) (s : State) : State :=
  if s.pass.stage = .idle then s
  else { s with pass := { s.pass with elapsedNs := s.pass.elapsedNs + n * Config.tapWriteNs } }

/-- R80, R81: an arbiter takes an operation: a read reads its words now, a write writes them now, and an adapter
update reads, adds and writes, or writes nothing where a word fails its parity (R86). The completion delivers the
result (log entry 11). -/
def takeOp (b : BankId) (op : BankOp) (s : State) : State :=
  let k := s.bank b
  match op with
  | .passRead block n =>
      s.setBank b { k with busy := some ⟨op, s.taps.readRange (block.1 * 32) n, 0⟩ }
  | .dumpRead block =>
      s.setBank b { k with busy := some ⟨op, s.taps.readRange (block.1 * 32) 32, 0⟩ }
  | .mgmtRead _ start count =>
      s.setBank b { k with busy := some ⟨op, s.taps.readRange start count, 0⟩ }
  | .mgmtWrite writes =>
      countTapWrites writes.length
        ({ s with taps := s.taps.writeAll writes }.setBank b { k with busy := some ⟨op, [], 0⟩ })
  | .adaptUpdate block deltas =>
      let words := s.taps.readRange (block.1 * 32) deltas.length
      if words.all (·.good) then
        let sums := tapSums words deltas
        countTapWrites deltas.length
          ({ s with taps := s.taps.writeRange (block.1 * 32) (sums.map satWord) }.setBank b
            { k with busy := some ⟨op, words, sums.countP saturates⟩ })
      else s.setBank b { k with busy := some ⟨op, words, 0⟩ }

/-- The place of an operation's requester in the waiting set (R78). -/
def Bank.wait (k : Bank) (op : BankOp) : Bank :=
  match op with
  | .passRead _ _ => { k with waitPass := some op }
  | .adaptUpdate _ _ => { k with waitAdapt := some op }
  | .dumpRead _ => { k with waitDump := some op }
  | .mgmtRead _ _ _ | .mgmtWrite _ => { k with waitMgmt := some op }

/-- No operation under way and none waiting. -/
def Bank.free (k : Bank) : Bool :=
  k.busy.isNone && k.waitPass.isNone && k.waitAdapt.isNone && k.waitDump.isNone && k.waitMgmt.isNone

/-- R79: a request arrives: it is taken at once by an idle bank, and waits otherwise. -/
def request (b : BankId) (op : BankOp) (s : State) : State :=
  if (s.bank b).free then takeOp b op s else s.setBank b ((s.bank b).wait op)

/-- R79: the operation under way has ended: the waiting operation of the highest priority is taken, in the order
pass, adapter, dump, management. -/
def takeNext (b : BankId) (s : State) : State :=
  let k := { s.bank b with busy := none }
  match k.waitPass, k.waitAdapt, k.waitDump, k.waitMgmt with
  | some op, _, _, _ => takeOp b op (s.setBank b { k with waitPass := none })
  | none, some op, _, _ => takeOp b op (s.setBank b { k with waitAdapt := none })
  | none, none, some op, _ => takeOp b op (s.setBank b { k with waitDump := none })
  | none, none, none, some op => takeOp b op (s.setBank b { k with waitMgmt := none })
  | none, none, none, none => s.setBank b k

/-! ### The dump engine's moves (R176, R177) -/

/-- R84, R177: the read of the next block is requested of its bank. -/
def requestDumpRead (s : State) : State := request (bankOf s.dump.next.1) (.dumpRead s.dump.next) s

/-- R177: a frame joins the dump place; after the last block's the engine is finishing, after another's the next
block's read is requested. -/
def placeDumpFrame (d : DumpFrame) (s : State) : State :=
  let s := { s with ret := { s.ret with dumpPlace := some d } }
  if d.last then { s with dump := { s.dump with state := .finishing, held := none } }
  else requestDumpRead { s with dump := { s.dump with state := .reading, next := s.dump.next + 1, held := none } }

/-! ### The return arbiter (R181 to R183) -/

/-- R165, R176: the REPLY joins the reply place and the Management Unit becomes idle; with an accepted DUMP's
reply the first block's read is requested. -/
def placeReply (r : Reply) (s : State) : State :=
  let s := { s with ret := { s.ret with replyPlace := some r }, mgmt := .idle }
  if r.startsDump then requestDumpRead s else s

/-- A reply with neither data nor an offset. -/
def plainReply (f : MgmtFrame) (st : Status) : Reply := ⟨f.tag, st, none, none, [], false⟩

/-- The position of the first word that failed its parity (R86). -/
def firstBad : Nat → List StoredWord → Option Nat
  | _, [] => none
  | i, w :: ws => if w.good then firstBad (i + 1) ws else some i

/-- R86, R170: the reply of a TAPS read. -/
def tapsReply (f : MgmtFrame) (ws : List StoredWord) : Reply :=
  { plainReply f .done with data := ws.map (·.value), parityPos := firstBad 0 ws }

/-- R174: the work RESTART lets finish has ended. -/
def restartSettled (s : State) : Bool :=
  s.pass.stage == .idle && (match s.engine with
    | some v => !v.abandon
    | none => true) && !s.dump.aborting

/-- R82, R165: the reply of a frame whose effects are complete but whose REPLY is not yet placed. A RESTART is such a
frame from the step after the one in which its work ends (`settleRestart`, log entry 34). -/
def readyReply : Mgmt → Option Reply
  | .executing _ (.finished r) => some r
  | .executing f (.writing 0) => some (plainReply f .done)
  | .executing f (.reading (some a) (some b)) => some (tapsReply f (a ++ b))
  | _ => none

/-- R165: a REPLY is placed at once when its execution is complete, so before a NOTICE or a DUMP frame that the arbiter
would take while the reply place is empty (log entry 34). -/
def placeReady (s : State) : State :=
  match readyReply s.mgmt with
  | some r => if s.ret.replyPlace.isNone && (!s.notices.isEmpty || s.ret.dumpPlace.isSome) then placeReply r s else s
  | none => s

/-- R182: on an idle line the arbiter takes the REPLY, or else the oldest notice (R183), or else the DUMP frame; a
reply or a dump frame that is held then moves up. -/
def returnTake (s : State) : State :=
  match s.ret.line, s.ret.replyPlace, s.notices, s.ret.dumpPlace with
  | some _, _, _, _ => s
  | none, some r, _, _ =>
      let s := { s with ret := { s.ret with line := some (.reply r), replyPlace := none } }
      match s.mgmt with
      | .holding h => placeReply h s
      | .idle | .executing _ _ => s
  | none, none, n :: rest, _ => { s with ret := { s.ret with line := some (.notice n) }, notices := rest }
  | none, none, [], some d =>
      let s := { s with ret := { s.ret with line := some (.dump d), dumpPlace := none } }
      match s.dump.held with
      | some h => placeDumpFrame h s
      | none => s
  | none, none, [], none => s

/-- R174, R180: once the work RESTART lets finish has ended, its reply is ready, after any ABORTED frame or notice
that an idle line takes in that same step. -/
def settleRestart (s : State) : State :=
  match s.mgmt with
  | .executing f .restarting =>
      if restartSettled s then { s with mgmt := .executing f (.finished (plainReply f .done)) } else s
  | _ => s

/-- R165, R182: the return arbiter's choice, made only while the line is idle; a REPLY that is ready goes first. -/
def returnChoose (s : State) : State :=
  settleRestart (if s.ret.line.isSome then s else returnTake (placeReady s))

/-- A command's effect t on s, and then the return arbiter's choice, where the line is idle and a frame waits
(R182). While RESET_N is low the part is in power-on reset and no line receiver reports anything (R201, R202), so
nothing but the two reset commands has an effect then (log entry 3). -/
def live (s : State) (t : State) : Host.Outcome State Fault Refusal :=
  .next (if s.resetHeld then s else returnChoose t)

/-! ### Notices (R189 to R191) -/

/-- R190: a raise of an unmasked key: one more occurrence (at most 255) of its entry, or a new entry at the
tail. -/
def addNotice (k : NoticeKind) (i : Nat) : List Notice → List Notice
  | [] => [⟨k, i, 1⟩]
  | n :: rest =>
      if n.kind = k ∧ n.index = i then { n with count := min 255 (n.count + 1) } :: rest
      else n :: addNotice k i rest

/-- R190, R191: a raise, discarded where its kind is masked. The return arbiter takes up a new entry at the end of the
step (log entry 18), so that all the raises of one key in one step count in one entry. -/
def raise (k : NoticeKind) (i : Nat) (s : State) : State :=
  if s.noticeMask[k.number] then { s with notices := addNotice k i s.notices } else s

/-! ### Counters (R184, R185, R187) -/

def PortCtr.index : PortCtr → Fin 6
  | .received => 0
  | .valid => 1
  | .damaged => 2
  | .short => 3
  | .babble => 4
  | .format => 5

def LaneCtr.index : LaneCtr → Fin 7
  | .sent => 0
  | .matched => 1
  | .unmatched => 2
  | .damaged => 3
  | .short => 4
  | .babble => 5
  | .format => 6

def SlotCtr.index : SlotCtr → Fin 11
  | .clamp => 0
  | .adapted => 1
  | .late => 2
  | .stale => 3
  | .sequence => 4
  | .saturation => 5
  | .overrun => 6
  | .miss => 7
  | .defer => 8
  | .fault => 9
  | .haltTimeout => 10

def GlobalCtr.index : GlobalCtr → Fin 6
  | .passOverrun => 0
  | .reportDrops => 1
  | .mgmtDrops => 2
  | .parityE => 3
  | .parityO => 4
  | .parityH => 5

/-- The value of a counter. -/
def Counters.read (c : Counters) : CounterId → Word
  | .port p k => c.port[p][k.index]
  | .lane l k => c.lane[l][k.index]
  | .slot s k => c.slot[s][k.index]
  | .global k => c.global[k.index]

/-- The counters with one of them set. -/
def Counters.write (c : Counters) (i : CounterId) (v : Word) : Counters :=
  match i with
  | .port p k => { c with port := c.port.set p (c.port[p].set k.index v) }
  | .lane l k => { c with lane := c.lane.set l (c.lane[l].set k.index v) }
  | .slot s k => { c with slot := c.slot.set s (c.slot[s].set k.index v) }
  | .global k => { c with global := c.global.set k.index v }

/-- R184, R187: one more count; a counter at 65535 stays there, and reaching 65535 raises COUNTER-FULL. -/
def incr (i : CounterId) (s : State) : State :=
  let v := s.counters.read i
  if v = 65535 then s
  else
    let t := { s with counters := s.counters.write i (v + 1) }
    if v = 65534 then raise .counterFull 0 t else t

/-- Several counts of one counter. -/
def incrTimes (i : CounterId) : Nat → State → State
  | 0, s => s
  | n + 1, s => incrTimes i n (incr i s)

/-! ### Parity (R85, R88, R89) -/

/-- The three parity-checked banks. -/
inductive ParityBank where
  | e | o | h
  deriving DecidableEq, Repr

def ParityBank.ofBank : BankId → ParityBank
  | .e => .e
  | .o => .o

def ParityBank.counter : ParityBank → GlobalCtr
  | .e => .parityE
  | .o => .parityO
  | .h => .parityH

def ParityBank.index : ParityBank → Nat
  | .e => 0
  | .o => 1
  | .h => 2

def ParityFlags.mark (f : ParityFlags) : ParityBank → ParityFlags
  | .e => { f with e := true }
  | .o => { f with o := true }
  | .h => { f with h := true }

/-- R85: a failing word counts, sets its bank's sticky flag and raises PARITY. -/
def parityFail (b : ParityBank) (s : State) : State :=
  let s := incr (.global b.counter) s
  raise .parity b.index { s with parityFlags := s.parityFlags.mark b }

/-- R85: the check of every word a read has returned, in the order read. -/
def checkParity (b : ParityBank) : List StoredWord → State → State
  | [], s => s
  | w :: ws, s => checkParity b ws (if w.good then s else parityFail b s)

/-- R87: a history value that fails its parity is taken as 0. -/
def StoredWord.orZero (w : StoredWord) : Word := if w.good then w.value else 0

/-- R63: the position of source q's ring that lies j places behind the push position. -/
def historyAddress (s : State) (q : Fin 48) (j : Nat) : Nat := q.1 * 48 + (s.pushPos + 48 - j % 48) % 48

/-- R63: the values of source q at lateness j, j + 1, ..., n of them. -/
def historyRead (s : State) (q : Fin 48) : Nat → Nat → List StoredWord
  | _, 0 => []
  | j, n + 1 => s.history.read (historyAddress s q j) :: historyRead s q (j + 1) n

/-! ### Path Table (R5, R10 to R12) -/

/-- Updates applied to a table, oldest first. -/
def applyUpdates (t : Vector PathEntry 384) : List (Fin 384 × PathEntry) → Vector PathEntry 384
  | [] => t
  | (i, e) :: rest => applyUpdates (t.set i e) rest

/-- R5: the projected Path Table. -/
def projected (s : State) : Vector PathEntry 384 := applyUpdates s.pathTable s.pathPending

/-- R11, R12: every pending update is made current and the list is left empty. -/
def applyPending (s : State) : State := { s with pathTable := projected s, pathPending := [] }

end Machine
end Sys2Proof
end

