-- ==== Sys2Proof/Machine/Ports.lean ====
section
/-! DEFINITION. Sense ports: frames, qualification, rate measurement, and delivery to the latches and to the
Management Unit (chapter 2, R164). -/

namespace Sys2Proof
namespace Machine

/-- The state with port p's receiver changed. -/
def setPort (p : Fin 8) (q : Port) (s : State) : State := { s with ports := s.ports.set p q }

/-- R25: a port takes frames while it is QUALIFYING or PASSING. -/
def Port.active (q : Port) : Bool := q.mode == .qualifying || q.mode == .passing

/-- R39: what every entry to DARK or OFF leaves of a receiver: the measured rate. Its line receiver trains in DARK
and not in OFF (R33, R201). -/
def Port.cleared (q : Port) (mode : PortMode) : Port :=
  { q with mode := mode, training := mode == .dark, run := 0, linkErrors := 0, stableRun := 0, stable := false,
           watchdog := none, gate := none, rx := none }

/-- R39, R40: entry to DARK or OFF; PORT-DOWN where the port was PASSING. -/
def portLeave (p : Fin 8) (mode : PortMode) (s : State) : State :=
  let q := s.ports[p]
  let s := setPort p (q.cleared mode) s
  if q.mode = .passing then raise .portDown p.1 s else s

/-- R38: a link error counts, and sends the port to DARK at the error threshold. -/
def portLinkError (p : Fin 8) (s : State) : State :=
  let q := s.ports[p]
  if q.active then
    if s.portTable[p].errorThreshold ≤ q.linkErrors + 1 then portLeave p .dark s
    else setPort p { q with linkErrors := q.linkErrors + 1 } s
  else s

/-- R34, R43: the check for entry to PASSING; PORT-UP (R40). -/
def portTryPass (p : Fin 8) (s : State) : State :=
  let q := s.ports[p]
  if q.mode = .qualifying ∧ canPass s.portTable[p] q then
    raise .portUp p.1 (setPort p { q with mode := .passing } s)
  else s

/-- R36, R40: a PASSING port goes back to QUALIFYING with its run at 0. -/
def portRequalify (p : Fin 8) (s : State) : State :=
  raise .portDown p.1 (setPort p { s.ports[p] with mode := .qualifying, run := 0 } s)

/-- The outcomes of a frame's checks (R27, R128). -/
inductive FrameClass where
  | valid | damaged | short | babble | format
  deriving DecidableEq, Repr

/-- R27 check 1: a kind and an address that a sense port takes: SAMPLE from nodes 0 to 31, management at 0. -/
def portHeaderOk (h : Word) : Bool :=
  (headerKind h == 1 && headerAddress h ≤ 31) || (2 ≤ headerKind h && headerKind h ≤ 4 && headerAddress h == 0)

/-- R195: the last word is the CRC over the words before it. -/
def crcMatches (ws : List Word) : Bool := ws.getLast? == some (crc16 ws.dropLast)

/-- R27: the checks of a frame that ended at port p, `byStart` at a misplaced start mark. -/
def portClass (p : Fin 8) (f : RxFrame) (byStart : Bool) : FrameClass :=
  match f.words with
  | [] => .short
  | h :: _ =>
      if !portHeaderOk h then .format
      else if 2 ≤ headerKind h && p != 0 then .format
      else if headerLength h + 2 < f.words.length then .babble
      else if f.words.length < headerLength h + 2 || byStart then .short
      else if !crcMatches f.words || f.marked then .damaged
      else .valid

/-- R30: the counter of a frame's class. -/
def FrameClass.portCtr : FrameClass → PortCtr
  | .valid => .valid
  | .damaged => .damaged
  | .short => .short
  | .babble => .babble
  | .format => .format

/-- R37: the watchdog starts with the span as it stands. -/
def Port.startWatchdog (q : Port) (e : PortEntry) : Port := { q with watchdog := some e.watchdogSpan }

/-- R34, R36, R37, R38, R41: the effect of a valid frame on the port's state. -/
def portValidEffect (p : Fin 8) (sample : Bool) (s : State) : State :=
  let q := { s.ports[p].startWatchdog s.portTable[p] with linkErrors := 0 }
  if sample then
    portTryPass p (setPort p { q with run := min 15 (q.run + 1), gate := q.gate.map (fun f => min 4095 (f + 1)) } s)
  else setPort p q s

/-- R35, R36: the effect of a damaged frame on the port's state. -/
def portDamagedEffect (p : Fin 8) (s : State) : State :=
  let q := s.ports[p]
  match q.mode with
  | .qualifying => setPort p { q with run := 0 } s
  | .passing => if s.portTable[p].strict then portRequalify p s else s
  | .off | .dark => s

/-- R48, R50: the samples of a delivered frame of node n at port p, each taken by the source with its key. -/
def deliverSamples (p : Fin 8) (node : Nat) (samples : List Word) (s : State) : State :=
  { s with latches := mapEntries (fun i q =>
      match s.sourceTable.toList[i]? with
      | some e =>
          if e.kind = .sensor ∧ e.port = p ∧ e.node.1 = node then
            match samples[e.channel.1]? with
            | some v => latchTake e v
            | none => q
          else q
      | none => q) s.latches }

/-- R49, R50: an aggressor sample of slot t, taken by the aggressor source mapped to it. -/
def deliverAggressor (t : Fin 96) (v : Word) (s : State) : State :=
  { s with latches := mapEntries (fun i q =>
      match s.sourceTable.toList[i]? with
      | some e => if e.kind = .aggressor ∧ e.slot = t then latchTake e v else q
      | none => q) s.latches }

/-- R164: a management frame joins the input queue, or is dropped at a full queue. -/
def mgmtJoin (f : MgmtFrame) (s : State) : State :=
  if s.mgmtQueue.length < 4 then { s with mgmtQueue := s.mgmtQueue ++ [f] }
  else raise .mgmtDrop 0 (incr (.global .mgmtDrops) s)

/-- R28, R29: delivery of a frame of the given class, decided on the state its effect has left. -/
def portDeliver (p : Fin 8) (cls : FrameClass) (f : RxFrame) (s : State) : State :=
  match f.words with
  | [] => s
  | h :: rest =>
      if headerKind h = 1 then
        if s.ports[p].mode = .passing ∧ (cls = .valid ∨ (cls = .damaged ∧ s.portTable[p].acceptDamaged)) then
          deliverSamples p (headerAddress h) rest.dropLast s
        else s
      else if cls = .valid then mgmtJoin ⟨h, rest.dropLast⟩ s
      else s

/-- R27: the effect of a frame's class on the port's state. -/
def portClassEffect (p : Fin 8) (cls : FrameClass) (f : RxFrame) (s : State) : State :=
  match cls with
  | .valid => portValidEffect p ((f.words.head?.map headerKind) == some 1) s
  | .damaged | .short | .babble => portDamagedEffect p s
  | .format => s

/-- R25 to R30: the frame being collected ends: checked, counted, its effect taken, its content delivered. -/
def portFrameEnd (p : Fin 8) (f : RxFrame) (byStart : Bool) (s : State) : State :=
  let cls := portClass p f byStart
  let s := setPort p { s.ports[p] with rx := none } s
  let s := incr (.port p cls.portCtr) (incr (.port p .received) s)
  portDeliver p cls f (portClassEffect p cls f s)

/-! ### The commands -/

/-- PORT_LINK_LOCK (R33, R37, R41): a DARK port enters QUALIFYING; in any other state the report changes
nothing. -/
def portLinkLock (p : Fin 8) (s : State) : State :=
  let q := s.ports[p]
  if q.mode = .dark then
    setPort p { q.startWatchdog s.portTable[p] with mode := .qualifying, training := false, run := 0, gate := some 0 } s
  else s

def execPortLinkLock (p : Fin 8) (s : State) : Host.Outcome State Fault Refusal := live s (portLinkLock p s)

/-- PORT_LOSS_OF_LOCK (R38, R39): a QUALIFYING or PASSING port enters DARK. -/
def portLossOfLock (p : Fin 8) (s : State) : State := if s.ports[p].active then portLeave p .dark s else s

def execPortLossOfLock (p : Fin 8) (s : State) : Host.Outcome State Fault Refusal := live s (portLossOfLock p s)

/-- PORT_SYMBOL_ERROR (R26, R38): marks the frame being collected and counts a link error. -/
def portSymbolError (p : Fin 8) (s : State) : State :=
  let q := s.ports[p]
  if q.active then portLinkError p (setPort p { q with rx := q.rx.map (fun f => { f with marked := true }) } s) else s

def execPortSymbolError (p : Fin 8) (s : State) : Host.Outcome State Fault Refusal := live s (portSymbolError p s)

/-- PORT_WORD_RECEIVED (R25): the word joins the frame being collected; outside a frame it belongs to none (log
entry 23). -/
def portWordReceived (p : Fin 8) (w : Word) (s : State) : State :=
  let q := s.ports[p]
  if q.active then setPort p { q with rx := q.rx.map (fun f => { f with words := f.words ++ [w] }) } s else s

def execPortWordReceived (p : Fin 8) (w : Word) (s : State) : Host.Outcome State Fault Refusal :=
  live s (portWordReceived p w s)

/-- R25: a start mark opens a frame while the port takes frames. -/
def portOpenFrame (p : Fin 8) (s : State) : State :=
  let q := s.ports[p]
  if q.active then setPort p { q with rx := some ⟨[], false⟩ } s else s

/-- PORT_START_MARK (R25, R26): opens a frame; a frame still being collected ends first, and the mark is a link
error (log entry 6). -/
def portStartMark (p : Fin 8) (s : State) : State :=
  let q := s.ports[p]
  if q.active then
    match q.rx with
    | none => portOpenFrame p s
    | some f => portOpenFrame p (portLinkError p (portFrameEnd p f true s))
  else s

def execPortStartMark (p : Fin 8) (s : State) : Host.Outcome State Fault Refusal := live s (portStartMark p s)

/-- PORT_END_MARK (R25, R26): ends the frame being collected; with none it is a link error. -/
def portEndMark (p : Fin 8) (s : State) : State :=
  let q := s.ports[p]
  if q.active then
    match q.rx with
    | none => portLinkError p s
    | some f => portFrameEnd p f false s
  else s

def execPortEndMark (p : Fin 8) (s : State) : Host.Outcome State Fault Refusal := live s (portEndMark p s)

/-- PORT_WATCHDOG_EXPIRY (R35, R36, R37): the run becomes 0, a PASSING port goes back to QUALIFYING, and the
watchdog starts again. -/
def portWatchdogExpiry (p : Fin 8) (s : State) : State :=
  let q := s.ports[p]
  match q.watchdog with
  | none => s
  | some _ =>
      let s := setPort p (q.startWatchdog s.portTable[p]) s
      match q.mode with
      | .qualifying => setPort p { s.ports[p] with run := 0 } s
      | .passing => portRequalify p s
      | .off | .dark => s

def execPortWatchdogExpiry (p : Fin 8) (s : State) : Host.Outcome State Fault Refusal :=
  live s (portWatchdogExpiry p s)

/-- PORT_RATE_GATE_END (R41, R42, R43): measured rate and stable run from the gate's count, the next gate begins,
and the port acts on the result. -/
def portRateGateEnd (p : Fin 8) (s : State) : State :=
  let q := s.ports[p]
  match q.gate with
  | none => s
  | some f =>
      let s := setPort p { gateMeasure s.portTable[p] q f with gate := some 0 } s
      match q.mode with
      | .qualifying => portTryPass p s
      | .passing => if f < s.portTable[p].minRate then portRequalify p s else s
      | .off | .dark => s

def execPortRateGateEnd (p : Fin 8) (s : State) : Host.Outcome State Fault Refusal := live s (portRateGateEnd p s)

end Machine
end Sys2Proof
end

