-- ==== Sys2Proof/Machine/Channels.lean ====
section
/-! DEFINITION. Correction channels, lane queues and the lane arbiter (chapter 7), and the lane's entry to UP and
to DOWN (chapter 6). -/

namespace Sys2Proof
namespace Machine

def setChannel (t : Fin 96) (c : Channel) (s : State) : State := { s with channels := s.channels.set t c }

def setLane (l : Fin 4) (k : Lane) (s : State) : State := { s with lanes := s.lanes.set l k }

def setOutstanding (t : Fin 96) (r : Option OutRecord) (s : State) : State :=
  { s with outstanding := s.outstanding.set t r }

/-- R139: a channel outside HALTED has no halt cause; every transition here sets the miss count to 0. -/
def Channel.at (st : ChannelState) : Channel := ⟨st, 0, none⟩

/-- R139: HALTED for a cause. -/
def Channel.haltedFor (c : HaltCause) : Channel := ⟨.halted, 0, some c⟩

def Channel.serving (c : Channel) : Bool := c.state == .run || c.state == .probe

/-- R151: slot t's waiting timed entry is flushed. -/
def flushTimed (t : Fin 96) (s : State) : State :=
  let k := s.lanes[slotLane t]
  setLane (slotLane t) { k with timed := k.timed.filter (fun e => e.slot ≠ t) } s

/-! ### The lane arbiter (R123, R160, R161) -/

def TimedEntry.frame (e : TimedEntry) : LaneFrame :=
  match e.kind with
  | .correct v c => .correct e.slot e.seq v c
  | .probe => .probe e.slot e.seq

def HaltEntry.frame (e : HaltEntry) : LaneFrame := .halt e.slot e.seq

/-- The first member p accepts, and the list without it. -/
def takeFirst {α : Type} (p : α → Bool) : List α → Option (α × List α)
  | [] => none
  | x :: xs =>
      if p x then some (x, xs)
      else match takeFirst p xs with
        | some (y, ys) => some (y, x :: ys)
        | none => none

/-- R160: an entry is eligible while its slot has no outstanding record. -/
def eligible (s : State) (t : Fin 96) : Bool := s.outstanding[t].isNone

/-- R160: the entry of a lane chosen next, as its frame, with the queues it leaves. -/
def laneNext (s : State) (k : Lane) : Option (LaneFrame × List TimedEntry × List HaltEntry) :=
  match takeFirst (fun e => e.aged && eligible s e.slot) k.untimed with
  | some (e, rest) => some (e.frame, k.timed, rest)
  | none =>
      match takeFirst (fun e => eligible s e.slot) k.timed with
      | some (e, rest) => some (e.frame, rest, k.untimed)
      | none =>
          match takeFirst (fun e => eligible s e.slot) k.untimed with
          | some (e, rest) => some (e.frame, k.timed, rest)
          | none => none

/-- R160, R161: on an UP lane with a free line the arbiter chooses, and transmission begins (R125). -/
def laneChoose (l : Fin 4) (s : State) : State :=
  let k := s.lanes[l]
  if k.up && k.tx.isNone then
    match laneNext s k with
    | some (f, timed, untimed) => setLane l { k with timed := timed, untimed := untimed, tx := some ⟨f, true⟩ } s
    | none => s
  else s

/-! ### Hand-over to a lane (R69, R156) -/

/-- R156: an entry joins the tail; an older entry of its slot is replaced and counts an overrun. -/
def joinTimed (e : TimedEntry) (s : State) : State :=
  let l := slotLane e.slot
  let k := s.lanes[l]
  let s1 := setLane l { k with timed := k.timed.filter (fun x => x.slot ≠ e.slot) ++ [e] } s
  if k.timed.any (fun x => x.slot = e.slot) then
    raise .slotOverrun e.slot.1 (incr (.slot e.slot .overrun) s1)
  else s1

/-- R69, R151: the channel state that goes with a timed entry of a kind. -/
def TimedKind.channelState : TimedKind → ChannelState
  | .correct _ _ => .run
  | .probe => .probe

/-- R69: the entry joins where its kind is the one of the channel's state, and is discarded otherwise. -/
def handOver (e : TimedEntry) (s : State) : State :=
  if s.channels[e.slot].state = e.kind.channelState then laneChoose (slotLane e.slot) (joinTimed e s) else s

/-! ### Statuses and misses (R145 to R150) -/

/-- R124: the drive's status in an ANSWER. -/
inductive AnswerStatus where
  | accept | defer | fault
  deriving DecidableEq, Repr

/-- R197: the status codes of an ANSWER. -/
def AnswerStatus.ofCode (w : Word) : Option AnswerStatus :=
  if w = 1 then some .accept else if w = 2 then some .defer else if w = 3 then some .fault else none

/-- R145. -/
def channelAccept (t : Fin 96) (s : State) : State :=
  if s.channels[t].state = .probe then flushTimed t (setChannel t (Channel.at .run) s)
  else setChannel t (Channel.at .run) s

/-- R146. -/
def channelDefer (t : Fin 96) (s : State) : State :=
  let c := s.channels[t]
  let s := incr (.slot t .defer) s
  if c.state = .run then raise .channelState t.1 (flushTimed t (setChannel t (Channel.at .probe) s))
  else setChannel t (Channel.at .probe) s

/-- R147. -/
def channelFault (t : Fin 96) (s : State) : State :=
  raise .channelState t.1 (flushTimed t (setChannel t (Channel.haltedFor .drive) (incr (.slot t .fault) s)))

/-- R145 to R150: a matched answer's status, with the kind of frame it answers. Statuses reach no other state (R151),
and would change nothing there (log entry 26). -/
def channelStatus (t : Fin 96) (kind : SentKind) (st : AnswerStatus) (s : State) : State :=
  match s.channels[t].state with
  | .run | .probe =>
      match st with
      | .accept => channelAccept t s
      | .defer => channelDefer t s
      | .fault => channelFault t s
  | .halting =>
      match kind with
      | .halt => setChannel t (Channel.haltedFor .command) s
      | .correct | .probe => s
  | .off | .halted | .retired => s

/-- R148: a miss in RUN or PROBE. -/
def channelMiss (t : Fin 96) (s : State) : State :=
  let c := s.channels[t]
  let s := incr (.slot t .miss) s
  if c.miss < 2 then setChannel t { c with miss := c.miss + 1 } s
  else raise .channelState t.1 (flushTimed t (setChannel t (Channel.at .retired) s))

/-- R149: a HALT timeout in HALTING. -/
def channelHaltTimeout (t : Fin 96) (s : State) : State :=
  raise .haltUnanswered t.1 (incr (.slot t .haltTimeout) (setChannel t (Channel.haltedFor .command) s))

/-- R131, R148 to R150: the expiry of a record of the given kind. -/
def channelExpiry (t : Fin 96) (kind : SentKind) (s : State) : State :=
  match s.channels[t].state with
  | .run | .probe =>
      match kind with
      | .correct | .probe => channelMiss t s
      | .halt => s
  | .halting =>
      match kind with
      | .halt => channelHaltTimeout t s
      | .correct | .probe => s
  | .off | .halted | .retired => s

/-! ### Entry to DOWN and to UP (R118, R120, R121, R152, R153) -/

/-- R152: a channel of a lane that enters DOWN. -/
def Channel.laneLost (c : Channel) : Channel :=
  match c.state with
  | .run | .probe | .halting => Channel.haltedFor .lane
  | .off | .halted | .retired => c

/-- Whether slot number i is carried on lane l. -/
def onLane (l : Fin 4) (i : Nat) : Bool := i / 24 == l.1

/-- R120 steps 1 to 6 and 8: lines, outstanding table, queues and count emptied, channels halted for cause LANE,
training begun at the line divisor as it stands. -/
def laneEmpty (l : Fin 4) (s : State) : State :=
  { s with
    lanes := s.lanes.set l
      { up := false, training := true, divisorInForce := s.laneTable[l].divisor, linkErrors := 0, timed := [],
        untimed := [], rx := none, tx := none }
    outstanding := mapEntries (fun i r => if onLane l i then none else r) s.outstanding
    channels := mapEntries (fun i c => if onLane l i then c.laneLost else c) s.channels }

/-- R120: an UP lane enters DOWN, with LANE-DOWN. -/
def laneEnterDown (l : Fin 4) (s : State) : State := raise .laneDown l.1 (laneEmpty l s)

/-- R119: a link error on an UP lane counts, and sends it to DOWN at its error threshold. -/
def laneLinkError (l : Fin 4) (s : State) : State :=
  let k := s.lanes[l]
  if k.up then
    if s.laneTable[l].errorThreshold ≤ k.linkErrors + 1 then laneEnterDown l s
    else setLane l { k with linkErrors := k.linkErrors + 1 } s
  else s

/-- R153: a channel that its lane's entry to UP resumes. -/
def resumable (c : Channel) (e : SlotEntry) : Bool := c.state == .halted && c.cause == some .lane && e.autoResume

/-- R153: the slots of lane l that its entry to UP resumes. -/
def resumedSlots (l : Fin 4) (s : State) : List Nat :=
  (mapFrom (fun i (ce : Channel × SlotEntry) => (i, onLane l i && resumable ce.1 ce.2)) 0
    (s.channels.toList.zip s.slotTable.toList)).filterMap (fun x => if x.2 then some x.1 else none)

/-- Insert a slot by its free rank (log entry 5). -/
def insertByRank (r : Nat → Nat) (t : Nat) : List Nat → List Nat
  | [] => [t]
  | x :: xs => if r t ≤ r x then t :: x :: xs else x :: insertByRank r t xs

/-- The slots in the free order of this entry to UP. -/
def sortByRank (r : Nat → Nat) : List Nat → List Nat
  | [] => []
  | x :: xs => insertByRank r x (sortByRank r xs)

/-- A raise for each slot of the list, in its order. -/
def raiseEach (k : NoticeKind) : List Nat → State → State
  | [], s => s
  | t :: ts, s => raiseEach k ts (raise k t s)

/-- R121, R153: a DOWN lane enters UP: LANE-UP, its resumable channels to PROBE with CHANNEL-STATE raised in some
order (log entry 5), and the arbiter's first choice (R161). -/
def laneEnterUp (l : Fin 4) (s : State) : State :=
  let order := sortByRank (Config.resumeRank s.resumes) (resumedSlots l s)
  let s1 : State := { s with
    lanes := s.lanes.set l { s.lanes[l] with up := true, training := false, linkErrors := 0 }
    channels := mapEntries (fun i c =>
      match s.slotTable.toList[i]? with
      | some e => if onLane l i && resumable c e then Channel.at .probe else c
      | none => c) s.channels
    resumes := s.resumes + 1 }
  laneChoose l (raiseEach .channelState order (raise .laneUp l.1 s1))

end Machine
end Sys2Proof
end

