-- ==== Sys2Proof/Machine/Lanes.lean ====
section
/-! DEFINITION. Slot lanes: answers, matching, answer windows, and the commands of the lane family (chapter 6). -/

namespace Sys2Proof
namespace Machine

/-- R92: a report joins the report queue, or is dropped at a full queue. -/
def reportJoin (r : Report) (s : State) : State :=
  if s.reports.length < 16 then { s with reports := s.reports ++ [r] }
  else raise .adaptDrop 0 (incr (.global .reportDrops) s)

/-- R128 check 1: an ANSWER from a slot of the lane, with 2 to 5 payload words. -/
def laneHeaderOk (l : Fin 4) (h : Word) : Bool :=
  headerKind h == 8 && 24 * l.1 ≤ headerAddress h && headerAddress h ≤ 24 * l.1 + 23 &&
    2 ≤ headerLength h && headerLength h ≤ 5

/-- The word at position i of a frame, header first. -/
def wordAt (ws : List Word) (i : Nat) : Word := ws.getD i 0

/-- R128: the checks of an incoming frame that ended on lane l, `byStart` at a misplaced start mark. -/
def laneClass (l : Fin 4) (f : RxFrame) (byStart : Bool) : FrameClass :=
  match f.words with
  | [] => .short
  | h :: _ =>
      if !laneHeaderOk l h then .format
      else if headerLength h + 2 < f.words.length then .babble
      else if f.words.length < headerLength h + 2 || byStart then .short
      else if !crcMatches f.words || f.marked then .damaged
      else if (AnswerStatus.ofCode (wordAt f.words 2)).isNone then .format
      else .valid

/-- The parts of a valid ANSWER (R129). -/
structure Answer where
  slot : Fin 96
  echo : Word
  status : AnswerStatus
  report : Option (Word × Word)
  aggressor : Option Word
  deriving DecidableEq, Repr

/-- R129: the optional parts by payload length. -/
def answerParts (ws : List Word) : Option (Word × Word) × Option Word :=
  match headerLength (wordAt ws 0) with
  | 3 => (none, some (wordAt ws 3))
  | 4 => (some (wordAt ws 3, wordAt ws 4), none)
  | 5 => (some (wordAt ws 3, wordAt ws 4), some (wordAt ws 5))
  | _ => (none, none)

/-- R129, R197: the answer that a frame's words hold. -/
def readAnswer (ws : List Word) : Option Answer :=
  match toFin 96 (headerAddress (wordAt ws 0)), AnswerStatus.ofCode (wordAt ws 2) with
  | some t, some st => some ⟨t, wordAt ws 1, st, (answerParts ws).1, (answerParts ws).2⟩
  | _, _ => none

/-- R134: a matched answer's parts go to the channel, the report queue and the Source Map. -/
def distribute (a : Answer) (kind : SentKind) (s : State) : State :=
  let s := channelStatus a.slot kind a.status s
  let s := match a.report with
    | some (r, e) => reportJoin ⟨a.slot, r, e⟩ s
    | none => s
  match a.aggressor with
  | some v => deliverAggressor a.slot v s
  | none => s

/-- R130, R133: a valid ANSWER matches by slot and sequence, or is discarded whole. The arbiter chooses after the
distribution, so that an entry the status flushes is not chosen (11 sections 11.3 and 11.4). -/
def answerMatch (l : Fin 4) (a : Answer) (s : State) : State :=
  match s.outstanding[a.slot] with
  | some r =>
      if r.seq = a.echo then
        laneChoose l (distribute a r.kind (incr (.lane l .matched) (setOutstanding a.slot none s)))
      else incr (.lane l .unmatched) s
  | none => incr (.lane l .unmatched) s

/-- R128, R136: the end of an incoming frame: checked, counted, matched and distributed. -/
def laneFrameEnd (l : Fin 4) (f : RxFrame) (byStart : Bool) (s : State) : State :=
  let s := setLane l { s.lanes[l] with rx := none } s
  match laneClass l f byStart with
  | .format => incr (.lane l .format) s
  | .babble => laneLinkError l (incr (.lane l .babble) s)
  | .short => incr (.lane l .short) s
  | .damaged => incr (.lane l .damaged) s
  | .valid =>
      match readAnswer f.words with
      | some a => answerMatch l a (setLane l { s.lanes[l] with linkErrors := 0 } s)
      | none => s

/-! ### The commands -/

/-- LANE_LINK_LOCK (R118, R121): a DOWN lane enters UP; on an UP lane the report changes nothing. -/
def laneLinkLock (l : Fin 4) (s : State) : State := if s.lanes[l].up then s else laneEnterUp l s

def execLaneLinkLock (l : Fin 4) (s : State) : Host.Outcome State Fault Refusal := live s (laneLinkLock l s)

/-- LANE_LOSS_OF_LOCK (R119): an UP lane enters DOWN. -/
def laneLossOfLock (l : Fin 4) (s : State) : State := if s.lanes[l].up then laneEnterDown l s else s

def execLaneLossOfLock (l : Fin 4) (s : State) : Host.Outcome State Fault Refusal := live s (laneLossOfLock l s)

/-- LANE_SYMBOL_ERROR (R119, R127): marks the incoming frame and counts a link error. -/
def laneSymbolError (l : Fin 4) (s : State) : State :=
  let k := s.lanes[l]
  if k.up then laneLinkError l (setLane l { k with rx := k.rx.map (fun f => { f with marked := true }) } s) else s

def execLaneSymbolError (l : Fin 4) (s : State) : Host.Outcome State Fault Refusal := live s (laneSymbolError l s)

/-- LANE_WORD_RECEIVED (R127): the word joins the incoming frame being collected. -/
def laneWordReceived (l : Fin 4) (w : Word) (s : State) : State :=
  let k := s.lanes[l]
  if k.up then setLane l { k with rx := k.rx.map (fun f => { f with words := f.words ++ [w] }) } s else s

def execLaneWordReceived (l : Fin 4) (w : Word) (s : State) : Host.Outcome State Fault Refusal :=
  live s (laneWordReceived l w s)

/-- R127: a start mark opens an incoming frame while the lane is UP. -/
def laneOpenFrame (l : Fin 4) (s : State) : State :=
  let k := s.lanes[l]
  if k.up then setLane l { k with rx := some ⟨[], false⟩ } s else s

/-- LANE_START_MARK (R119, R127): opens a frame; a frame still being collected ends first, and the mark is a link
error (log entry 6). -/
def laneStartMark (l : Fin 4) (s : State) : State :=
  let k := s.lanes[l]
  if k.up then
    match k.rx with
    | none => laneOpenFrame l s
    | some f => laneOpenFrame l (laneLinkError l (laneFrameEnd l f true s))
  else s

def execLaneStartMark (l : Fin 4) (s : State) : Host.Outcome State Fault Refusal := live s (laneStartMark l s)

/-- LANE_END_MARK (R119, R127): ends the incoming frame; with none it is a link error. -/
def laneEndMark (l : Fin 4) (s : State) : State :=
  let k := s.lanes[l]
  if k.up then
    match k.rx with
    | none => laneLinkError l s
    | some f => laneFrameEnd l f false s
  else s

def execLaneEndMark (l : Fin 4) (s : State) : Host.Outcome State Fault Refusal := live s (laneEndMark l s)

/-- LANE_TRANSMIT_END (R125, R135): the frame counts as sent, its outstanding record is entered with the answer
window as it stands (R138), unless RESTART came during the transmission, and the line is free. -/
def laneTransmitEnd (l : Fin 4) (s : State) : State :=
  let k := s.lanes[l]
  match k.tx with
  | none => s
  | some x =>
      let s := incr (.lane l .sent) (setLane l { k with tx := none } s)
      let s :=
        if x.enters then setOutstanding x.frame.slot (some ⟨x.frame.sentKind, x.frame.seq, s.laneTable[l].window⟩) s
        else s
      laneChoose l s

def execLaneTransmitEnd (l : Fin 4) (s : State) : Host.Outcome State Fault Refusal := live s (laneTransmitEnd l s)

/-- ANSWER_WINDOW_EXPIRY (R131): the record is removed and its expiry goes to the channel; the arbiter chooses after
that. A slot that the lane does not carry has no record in its table (R126). -/
def answerWindowExpiry (l : Fin 4) (t : Fin 96) (s : State) : State :=
  if slotLane t = l then
    match s.outstanding[t] with
    | none => s
    | some r => laneChoose l (channelExpiry t r.kind (setOutstanding t none s))
  else s

def execAnswerWindowExpiry (l : Fin 4) (slot : Fin 96) (s : State) : Host.Outcome State Fault Refusal :=
  live s (answerWindowExpiry l slot s)

end Machine
end Sys2Proof
end

