-- ==== Sys2Proof/Machine/TapStore.lean ====
section
/-! DEFINITION. Completion of bank operations and delivery of their results (chapter 4), and the Adaptation Engine
(chapter 5), which waits for one of them. -/

namespace Sys2Proof
namespace Machine

/-! ### The engine's walk (R101, R109) -/

/-- R101: the walk updates a path whose current entry is enabled, adaptive and names the slot. -/
def adaptsFor (t : Fin 96) (e : PathEntry) : Bool := e.state == .enabled && e.adaptive && e.slot == t

/-- R101: the first path from number i on that the walk for slot t updates. -/
def nextAdaptive (table : Vector PathEntry 384) (t : Fin 96) (i : Nat) : Option (Nat × PathEntry) :=
  findFrom (adaptsFor t) i (table.toList.drop i)

/-- R109, R110: the gain step at the end of a report's walk. -/
def stepGain (v : Service) (s : State) : State :=
  { s with gain := s.gain.set v.slot (gainStep s.slotTable[v.slot] v.residual s.gain[v.slot]) }

/-- R101, R109: the walk passes over entries up to the next path to update; past path 383 the gain step is made and
the engine is idle (log entry 14). -/
def walkOn (v : Service) (i : Nat) (s : State) : State :=
  match nextAdaptive s.pathTable v.slot i with
  | some (j, _) => { s with engine := some { v with pathPos := j, updating := false } }
  | none => { stepGain v s with engine := none }

/-- REPORT_TAKE (R93, R98 to R100): the idle engine takes the head report and drops, discards or accepts it. -/
def reportTake (s : State) : State :=
  match s.engine, s.reports with
  | none, r :: rest =>
      let s := { s with reports := rest }
      let g := s.gain[r.slot]
      if !s.slotTable[r.slot].adaptation then s
      else if 32768 ≤ lateness r.seq s.seq then incr (.slot r.slot .sequence) s
      else if 9 ≤ lateness r.seq s.seq then incr (.slot r.slot .late) s
      else if g.last.all (newer r.seq) then
        let s := { s with gain := s.gain.set r.slot { g with last := some r.seq } }
        walkOn ⟨r.slot, r.seq, r.residual, g.mu, s.slotTable[r.slot].nMin, 0, false, false⟩ 0
          (incr (.slot r.slot .adapted) s)
      else incr (.slot r.slot .stale) s
  | _, _ => s

def execReportTake (s : State) : Host.Outcome State Fault Refusal := live s (reportTake s)

/-- R64, R103: an expiry has moved the sequence on and the push of its pass has not ended. -/
def pushPending (s : State) : Bool := s.pass.stage == .push || s.pass.waiting != 0

/-- R103: the lateness, against the current sequence, of the value a path reads for its first tap. -/
def spanStart (s : State) (v : Service) (e : PathEntry) : Nat := lateness (v.seq - BitVec.ofNat 16 e.delay) s.seq

/-- R103: the oldest value the path needs, x[r − d − (L − 1)], is still held. -/
def windowHeld (s : State) (v : Service) (e : PathEntry) : Bool :=
  lateness (v.seq - BitVec.ofNat 16 (e.delay + (e.taps - 1))) s.seq ≤ 47

/-- R103 to R107: the update of path number i with entry e: the window check, the history reads, energy, deltas, and
the request to the Tap Store. -/
def beginUpdate (v : Service) (i : Nat) (e : PathEntry) (s : State) : State :=
  if windowHeld s v e then
    let read := historyRead s e.source (spanStart s v e) e.taps
    let s := checkParity .h read s
    let xs := read.map StoredWord.orZero
    if energy xs = 0 then walkOn v (i + 1) s
    else
      let n := normExponent v.nMin (energy xs)
      request (bankOf e.block.1) (.adaptUpdate e.block (xs.map (delta v.mu n v.residual)))
        { s with engine := some { v with pathPos := i, updating := true } }
  else walkOn v (i + 1) (incr (.slot v.slot .late) s)

/-- ADAPT_PATH_UPDATE (R101 to R107): the serving engine begins the update of the next path of its walk; it waits
while an update is under way or a push is to come (R64). One that waits for a push has not begun: `updating` is set
with the request only, so that a RESTART meanwhile finds no update under way (R103, R108, R111 leave it open; log
entry 33, DESIGN CHOICE). -/
def adaptPathUpdate (s : State) : State :=
  match s.engine with
  | none => s
  | some v =>
      if v.updating || pushPending s then s
      else match nextAdaptive s.pathTable v.slot v.pathPos with
        | some (i, e) => beginUpdate v i e s
        | none => walkOn v v.pathPos s

def execAdaptPathUpdate (s : State) : Host.Outcome State Fault Refusal := live s (adaptPathUpdate s)

/-! ### Delivery of a completed operation (R79, R86) -/

/-- R16, R17, R78: the pass takes the coefficients of the path it reads, and requests the next path's read. -/
def deliverPass (words : List StoredWord) (s : State) : State :=
  match s.pass.comp with
  | none | some (.probe _) => s
  | some (.compute c) =>
      match c.todo with
      | [] => s
      | job :: rest =>
          let s := { s with pass := { s.pass with
            comp := some (.compute { c with acc := c.acc + contribution job words, todo := rest }) } }
          match rest with
          | [] => s
          | next :: _ => request (bankOf next.block.1) (.passRead next.block next.taps) s

/-- R107, R109, R111: the engine counts the saturated taps and walks on; a walk that RESTART has abandoned stops with
no gain step. -/
def deliverAdapt (saturated : Nat) (s : State) : State :=
  match s.engine with
  | none => s
  | some v =>
      let s := incrTimes (.slot v.slot .saturation) saturated s
      if v.abandon then { s with engine := none } else walkOn v (v.pathPos + 1) s

/-- R178: the frame of an aborted dump. -/
def abortedFrame (s : State) : DumpFrame := ⟨s.dump.next, false, false, true, []⟩

/-- R180: the ABORTED frame takes the dump place and the engine is idle. -/
def placeAborted (s : State) : State :=
  { s with
    ret := { s.ret with dumpPlace := some (abortedFrame s) }
    dump := { s.dump with state := .idle, held := none, aborting := false } }

/-- R177, R178, R180: a block read has completed: its frame is placed, or held while the dump place is full; for an
aborted dump the result is discarded. -/
def deliverDump (block : Fin 512) (words : List StoredWord) (s : State) : State :=
  if s.dump.aborting then placeAborted s
  else
    let d : DumpFrame := ⟨block, !words.all (·.good), block = s.dump.last, false, words.map (·.value)⟩
    if s.ret.dumpPlace.isNone then placeDumpFrame d s
    else { s with dump := { s.dump with state := .holding, held := some d } }

/-- R82: a part of a TAPS frame has completed. -/
def deliverMgmtRead (second : Bool) (words : List StoredWord) (s : State) : State :=
  match s.mgmt with
  | .executing f (.reading a b) =>
      { s with mgmt := .executing f (if second then .reading a (some words) else .reading (some words) b) }
  | _ => s

def deliverMgmtWrite (s : State) : State :=
  match s.mgmt with
  | .executing f (.writing n) => { s with mgmt := .executing f (.writing (n - 1)) }
  | _ => s

/-- R79, R85, R86: the result of a completed operation goes to its requester, its failing words counted first. -/
def deliverOp (b : BankId) (u : UnderWay) (s : State) : State :=
  let s := checkParity (ParityBank.ofBank b) u.words s
  match u.op with
  | .passRead _ _ => deliverPass u.words s
  | .adaptUpdate _ _ => deliverAdapt u.saturated s
  | .dumpRead block => deliverDump block u.words s
  | .mgmtRead second _ _ => deliverMgmtRead second u.words s
  | .mgmtWrite _ => deliverMgmtWrite s

/-- TAP_OPERATION_COMPLETE (R79): the operation under way on a bank ends, the arbiter takes the next, and the result
is delivered. -/
def tapOperationComplete (b : BankId) (s : State) : State :=
  match (s.bank b).busy with
  | none => s
  | some u => deliverOp b u (takeNext b s)

def execTapOperationComplete (b : BankId) (s : State) : Host.Outcome State Fault Refusal :=
  live s (tapOperationComplete b s)

end Machine
end Sys2Proof
end

