-- ==== Sys2Proof/Machine/Pass.lean ====
section
/-! DEFINITION. The Period Timer and the Filter Pass Engine (chapters 1 and 3). -/

namespace Sys2Proof
namespace Machine

/-- RESTART is in execution and waits for the work it lets finish (R174). -/
def restartWaiting (s : State) : Bool :=
  match s.mgmt with
  | .executing _ .restarting => true
  | _ => false

/-- R60, R11: the pass with sequence n begins: its record is set and the apply stage makes the pending updates
current. It ends after its push where a further expiry has come already (R73), or a RESTART (R76). -/
def beginPass (n : Word) (waiting : Nat) (s : State) : State :=
  let s := applyPending s
  { s with pass := { s.pass with
      stage := .push, seq := n, walkPos := 0, elapsedNs := 0, comp := none, waiting := waiting,
      ending := if waiting ≠ 0 then some .overrun else if restartWaiting s then some .restart else none } }

/-- R76 steps 3 and 4: every history value 0 with good parity, push position 0, current sequence 0. -/
def clearHistory (s : State) : State := { s with history := [], pushPos := 0, seq := 0 }

/-- R59, R57, R73, R76: a pass ends. An overrun is counted and raised; a pass whose expiry has come begins; with none
left, a waiting RESTART clears the History Store. A pass whose expiry has come begins also where STOP came after that
expiry, so while STOPPED (R53, R57; log entry 32, DESIGN CHOICE). -/
def endPass (o : PassOutcome) (s : State) : State :=
  let n := s.pass.waiting
  let s := { s with pass := { s.pass with stage := .idle, lastOutcome := o, ending := none, comp := none } }
  let s := if o = .overrun then raise .passOverrun 0 (incr (.global .passOverrun) s) else s
  if n ≠ 0 then beginPass (s.seq - BitVec.ofNat 16 (n - 1)) (n - 1) s
  else if restartWaiting s then clearHistory s
  else s

/-- R159: an expiry marks every entry waiting in the untimed queues. -/
def markAged (s : State) : State :=
  { s with lanes :=
      mapEntries (fun _ k => { k with untimed := k.untimed.map (fun e => { e with aged := true }) }) s.lanes }

/-- PERIOD_EXPIRY (R57, R73, R74, R159): the next expiry is set, the sequence moves on, and the pass begins; a pass
in flight is first brought to its end, after its slot or stage. -/
def periodExpiry (s : State) : State :=
  if s.running then
    let s := markAged { s with timer := some s.period, seq := s.seq + 1 }
    if s.pass.stage = .idle then beginPass s.seq 0 s
    else
      let s := { s with pass := { s.pass with waiting := s.pass.waiting + 1,
                                               ending := s.pass.ending.or (some .overrun) } }
      if s.pass.stage = .walk ∧ 96 ≤ s.pass.walkPos then endPass .overrun s else s
  else s

def execPeriodExpiry (s : State) : Host.Outcome State Fault Refusal := live s (periodExpiry s)

/-- R62: the values every source yields, at the addresses of push position pos. -/
def pushWrites (s : State) (pos : Nat) : List (Nat × Word) :=
  mapFrom (fun q (el : SourceEntry × Latch) => (q * 48 + pos, latchYield el.1 el.2)) 0
    (s.sourceTable.toList.zip s.latches.toList)

/-- R51, R62: the push of every source. -/
def pushSources (s : State) : State :=
  let pos := (s.pushPos + 1) % 48
  { s with
    pushPos := pos
    history := s.history.writeAll (pushWrites s pos)
    latches := mapEntries (fun _ q => latchStep q) s.latches
    pass := { s.pass with elapsedNs := s.pass.elapsedNs + Config.pushStagesNs } }

/-- PASS_PUSH (R60, R62, R73, R76): the push stage; then the walk begins, or a pass cut short ends. -/
def passPush (s : State) : State :=
  if s.pass.stage = .push then
    let s := pushSources s
    match s.pass.ending with
    | none => { s with pass := { s.pass with stage := .walk, walkPos := 0 } }
    | some .overrun => endPass .overrun s
    | some .restart => endPass .restarted s
  else s

def execPassPush (s : State) : Host.Outcome State Fault Refusal := live s (passPush s)

/-! ### The walk (R15, R65 to R69) -/

/-- R1, R3: the paths of a slot: enabled in the current table and naming it. They are read in ascending path number;
R1 and R78 leave the order open (log entry 31, DESIGN CHOICE). -/
def pathSet (s : State) (t : Fin 96) : List PathEntry :=
  s.pathTable.toList.filter (fun e => e.state == .enabled && e.slot == t)

/-- R17: the source is used. -/
def sourceUsed (s : State) (q : Fin 48) : Bool := s.sourceTable[q].kind != .unused

/-- R16, R63: the history words a path reads, at lateness d to d + L − 1 behind its own pass's push; none where
its source is unused (R17). -/
def pathHistory (s : State) (e : PathEntry) : List StoredWord :=
  if sourceUsed s e.source then historyRead s e.source e.delay e.taps else []

/-- The path as its slot's computation holds it. -/
def pathJob (s : State) (e : PathEntry) : PathJob where
  block := e.block
  taps := e.taps
  history := if sourceUsed s e.source then some ((pathHistory s e).map StoredWord.orZero) else none

/-- R71: the time the paths of a slot cost. -/
def pathsNs (es : List PathEntry) : Nat := (es.map (fun e => Config.pathNs + e.taps * Config.tapNs)).sum

def addElapsed (n : Nat) (s : State) : State :=
  { s with pass := { s.pass with elapsedNs := s.pass.elapsedNs + n } }

/-- R19 to R21: the sum is scaled, rounded and clamped, and the CORRECT entry is handed to the lane. -/
def finishComp (c : SlotComp) (s : State) : State :=
  let u := rawCorrection c.shift c.acc
  let hit := isClamped c.limit u
  let s := { s with pass := { s.pass with comp := none } }
  let s := if hit then incr (.slot c.slot .clamp) s else s
  handOver ⟨c.slot, s.pass.seq, .correct (BitVec.ofInt 16 (correction c.limit u)) hit⟩ s

/-- R74: the number of slots an overrun pass has finished with once slot number n − 1 is: all 96 where no later slot
is selected (log entry 8). -/
def overrunPosition (s : State) (n : Nat) : Nat :=
  if (mapFrom (fun i (x : SlotEntry × Channel) => decide (n ≤ i) && selected x.1 x.2 s.pass.seq) 0
      (s.slotTable.toList.zip s.channels.toList)).any id then n
  else 96

/-- R59, R73, R76: the walk has finished with a slot; a pass that is to end ends. -/
def slotDone (s : State) : State :=
  let n := s.pass.walkPos + 1
  match s.pass.ending with
  | none => { s with pass := { s.pass with walkPos := n } }
  | some .overrun => endPass .overrun { s with pass := { s.pass with walkPos := overrunPosition s n } }
  | some .restart => endPass .restarted { s with pass := { s.pass with walkPos := n } }

/-- R1, R14 to R17: the computation of slot t begins: shift, limit, path set and history are read, and the first
path's coefficients are requested. An empty path set has nothing to request, and its sum is 0 (R18). -/
def beginComp (t : Fin 96) (s : State) : State :=
  let es := pathSet s t
  let c : SlotComp := ⟨t, s.slotTable[t].shift, s.slotTable[t].limit, 0, es.map (pathJob s)⟩
  let s := addElapsed (pathsNs es) (checkParity .h (es.flatMap (pathHistory s)) s)
  let s := { s with pass := { s.pass with comp := some (.compute c) } }
  match c.todo with
  | [] => s
  | job :: _ => request (bankOf job.block.1) (.passRead job.block job.taps) s

/-- R65, R67, R68, R71: the walk reaches slot t and reads its channel, once: the slot is passed over, or is to be
probed or computed. Its entry is handed over by a later WALK_SLOT, so that a transition of the channel may come
between (R67, R69, R145; log entry 7). -/
def reachSlot (t : Fin 96) (s : State) : State :=
  let c := s.channels[t]
  if selected s.slotTable[t] c s.pass.seq then
    let s := addElapsed Config.selectedSlotNs s
    if c.state = .run then beginComp t s else { s with pass := { s.pass with comp := some (.probe t) } }
  else slotDone s

/-- R68, R69: the PROBE entry of slot t is handed to its lane, which compares it with the channel as it then stands. -/
def finishProbe (t : Fin 96) (s : State) : State :=
  handOver ⟨t, s.pass.seq, .probe⟩ { s with pass := { s.pass with comp := none } }

/-- WALK_SLOT (R15, R65, R69): the walk reaches its next slot, or hands over the entry of the slot it has read and goes
on; while a coefficient read is outstanding it waits (log entry 7). -/
def walkSlot (s : State) : State :=
  if s.pass.stage = .walk then
    match s.pass.comp with
    | some (.compute c) => if c.todo.isEmpty then slotDone (finishComp c s) else s
    | some (.probe t) => slotDone (finishProbe t s)
    | none =>
        match toFin 96 s.pass.walkPos with
        | some t => reachSlot t s
        | none => s
  else s

def execWalkSlot (s : State) : Host.Outcome State Fault Refusal := live s (walkSlot s)

/-- PASS_COMPLETE (R70): after slot 95 the pass completes. -/
def passComplete (s : State) : State :=
  if s.pass.stage = .walk ∧ 96 ≤ s.pass.walkPos ∧ s.pass.comp = none then endPass .completed s else s

def execPassComplete (s : State) : Host.Outcome State Fault Refusal := live s (passComplete s)

end Machine
end Sys2Proof
end

