-- ==== Sys2Proof/Machine/Writes.lean ====
section
/-! DEFINITION. MWRITE: the checks in the order of R168 and the application of R169, table by table. -/

namespace Sys2Proof
namespace Machine

/-! ### The frame in execution (R165) -/

/-- The frame just taken, where it is one that the given row executes. -/
def frameFor (row : MgmtRow) (s : State) : Option MgmtFrame :=
  match s.mgmt with
  | .executing f .taken => if rowOf f = some row then some f else none
  | _ => none

def setPhase (f : MgmtFrame) (ph : Phase) (s : State) : State := { s with mgmt := .executing f ph }

/-- The execution's effects are complete, with a status. -/
def answer (f : MgmtFrame) (st : Status) (s : State) : State := setPhase f (.finished (plainReply f st)) s

/-- The frame is refused with a failing offset, and nothing else changes (R168, R170). -/
def refuseAt (f : MgmtFrame) (st : Status) (off : Nat) (s : State) : State :=
  setPhase f (.finished { plainReply f st with offset := some off }) s

/-- A row's effect on the frame it executes; in any other state of the Management Unit the row's event does not
occur (log entry 2). -/
def onFrame (row : MgmtRow) (effect : MgmtFrame → State → State) (s : State) : Host.Outcome State Fault Refusal :=
  live s (match frameFor row s with
    | some f => effect f s
    | none => s)

/-- R167, R168: the FORMAT check and the beyond-the-table check, then the table's own. -/
def writeTable (size : Nat) (rest : MgmtFrame → State → State) (f : MgmtFrame) (s : State) : State :=
  if !f.writeFormatOk then answer f .format s
  else match beyond f.offset f.lastOffset size with
    | some off => refuseAt f .range off s
    | none => rest f s

/-! ### PORT (R31, R32, R116, R138) -/

/-- The assembled image of an entry, none where a field is out of range. -/
def portImage (f : MgmtFrame) (e : Nat) (old : PortEntry) : Option PortEntry :=
  PortEntry.ofWords (f.assemble 4 e old.toWords)

def laneImage (f : MgmtFrame) (e : Nat) (old : LaneEntry) : Option LaneEntry :=
  LaneEntry.ofWords (f.assemble 4 e old.toWords)

/-- R168: an assembled PORT entry holds a field out of its range. Entries 8 to 11 are the lanes (R116). -/
def portEntryFails (f : MgmtFrame) (s : State) (e : Nat) : Bool :=
  match s.portTable.toList[e]?, s.laneTable.toList[e - 8]? with
  | some old, _ => (portImage f e old).isNone
  | none, some old => (laneImage f e old).isNone
  | none, none => true

/-- R32: a change of a port's enabled field changes its state; S0's has no effect. -/
def enableChange (old : Vector PortEntry 8) (p : Fin 8) (s : State) : State :=
  if p ≠ 0 ∧ old[p].enabled ≠ s.portTable[p].enabled then
    portLeave p (if s.portTable[p].enabled then .dark else .off) s
  else s

/-- R169: the touched entries are written, and the ports whose enabled field changes change state. -/
def applyPort (f : MgmtFrame) (s : State) : State :=
  let t : State := { s with
    portTable := mapEntries (fun e old => if f.touches 4 e then (portImage f e old).getD old else old) s.portTable
    laneTable := mapEntries (fun i old => if f.touches 4 (i + 8) then (laneImage f (i + 8) old).getD old else old)
      s.laneTable }
  [1, 2, 3, 4, 5, 6, 7].foldl (fun u p => enableChange s.portTable p u) t

/-- MWRITE of PORT. -/
def writePort (f : MgmtFrame) (s : State) : State :=
  writeTable 48 (fun f s =>
    match (f.touched 4).find? (portEntryFails f s) with
    | some e => refuseAt f .range (f.offsetIn 4 e) s
    | none => answer f .done (applyPort f s)) f s

/-- MWRITE_PORT (R31, R32, R116, R138). -/
def execMwritePort (s : State) : Host.Outcome State Fault Refusal := onFrame .mwritePort writePort s

/-! ### SOURCE (R44 to R46) -/

def sourceImage (f : MgmtFrame) (e : Nat) (old : SourceEntry) : Option SourceEntry :=
  SourceEntry.ofWords (f.assemble 2 e old.toWords)

def sourceEntryFails (f : MgmtFrame) (s : State) (e : Nat) : Bool :=
  match s.sourceTable.toList[e]? with
  | some old => (sourceImage f e old).isNone
  | none => true

/-- The table that would result from the write (R45). -/
def sourceResult (f : MgmtFrame) (s : State) : Vector SourceEntry 48 :=
  mapEntries (fun e old => if f.touches 2 e then (sourceImage f e old).getD old else old) s.sourceTable

/-- R44, R45: both used, of one kind, and with the same key. -/
def sameKey (a b : SourceEntry) : Bool :=
  match a.kind, b.kind with
  | .sensor, .sensor => a.port == b.port && a.node == b.node && a.channel == b.channel
  | .aggressor, .aggressor => a.slot == b.slot
  | _, _ => false

/-- R45: entry e shares its key with another entry of the table. -/
def keyClash (t : Vector SourceEntry 48) (e : Nat) : Bool :=
  match t.toList[e]? with
  | some x => (mapFrom (fun i y => decide (i ≠ e) && sameKey x y) 0 t.toList).any id
  | none => false

/-- R46: the kind or a field of the key has changed. -/
def mappingChanged (a b : SourceEntry) : Bool :=
  a.kind != b.kind ||
    match b.kind with
    | .unused => false
    | .sensor => a.port != b.port || a.node != b.node || a.channel != b.channel
    | .aggressor => a.slot != b.slot

/-- R46, R169: the touched entries are written, and the latches of changed mappings are reset. -/
def applySource (f : MgmtFrame) (s : State) : State :=
  let t := sourceResult f s
  { s with
    sourceTable := t
    latches := mapEntries (fun i q =>
      match s.sourceTable.toList[i]?, t.toList[i]? with
      | some a, some b => if mappingChanged a b then Latch.reset else q
      | _, _ => q) s.latches }

/-- MWRITE of SOURCE. -/
def writeSource (f : MgmtFrame) (s : State) : State :=
  writeTable 96 (fun f s =>
    match (f.touched 2).find? (sourceEntryFails f s) with
    | some e => refuseAt f .range (f.offsetIn 2 e) s
    | none =>
        match (f.touched 2).find? (keyClash (sourceResult f s)) with
        | some e => refuseAt f .plan (f.offsetIn 2 e) s
        | none => answer f .done (applySource f s)) f s

/-- MWRITE_SOURCE (R44 to R46). -/
def execMwriteSource (s : State) : Host.Outcome State Fault Refusal := onFrame .mwriteSource writeSource s

/-! ### SLOT (R14, R66, R94, R96, R140) -/

def slotImage (f : MgmtFrame) (e : Nat) (old : SlotEntry) : Option SlotEntry :=
  SlotEntry.ofWords (f.assemble 6 e old.toWords)

def slotEntryFails (f : MgmtFrame) (s : State) (e : Nat) : Bool :=
  match s.slotTable.toList[e]? with
  | some old => (slotImage f e old).isNone
  | none => true

/-- The table that would result from the write. -/
def slotResult (f : MgmtFrame) (s : State) : Vector SlotEntry 96 :=
  mapEntries (fun e old => if f.touches 6 e then (slotImage f e old).getD old else old) s.slotTable

/-- R140: the write disables slot e while its channel is not OFF. -/
def disablesLive (f : MgmtFrame) (s : State) (e : Nat) : Bool :=
  match s.slotTable.toList[e]?, (slotResult f s).toList[e]?, s.channels.toList[e]? with
  | some a, some b, some c => a.enabled && !b.enabled && c.state != .off
  | _, _, _ => false

/-- R96, R169: the touched entries are written, and mu is saturated where floor or ceiling has changed. -/
def applySlot (f : MgmtFrame) (s : State) : State :=
  let t := slotResult f s
  { s with
    slotTable := t
    gain := mapEntries (fun i g =>
      match s.slotTable.toList[i]?, t.toList[i]? with
      | some a, some b =>
          if a.muFloor ≠ b.muFloor ∨ a.muCeiling ≠ b.muCeiling then { g with mu := clampMu b g.mu } else g
      | _, _ => g) s.gain }

/-- MWRITE of SLOT. -/
def writeSlot (f : MgmtFrame) (s : State) : State :=
  writeTable 576 (fun f s =>
    match (f.touched 6).find? (slotEntryFails f s) with
    | some e => refuseAt f .range (f.offsetIn 6 e) s
    | none =>
        match (f.touched 6).find? (disablesLive f s) with
        | some e => refuseAt f .state (f.offsetIn 6 e) s
        | none => answer f .done (applySlot f s)) f s

/-- MWRITE_SLOT (R94, R66, R96, R140). -/
def execMwriteSlot (s : State) : Host.Outcome State Fault Refusal := onFrame .mwriteSlot writeSlot s

/-! ### PATH (R2, R5 to R9) -/

def pathImage (f : MgmtFrame) (e : Nat) (old : PathEntry) : Option PathEntry :=
  PathEntry.ofWords (f.assemble 3 e old.toWords)

/-- R7: the images assembled over the projected table. -/
def pathEntryFails (f : MgmtFrame) (s : State) (e : Nat) : Bool :=
  match (projected s).toList[e]? with
  | some old => (pathImage f e old).isNone
  | none => true

/-- R6: the table that would result from applying the assembled entries on top of a table. -/
def pathResult (f : MgmtFrame) (t : Vector PathEntry 384) : Vector PathEntry 384 :=
  mapEntries (fun e old => if f.touches 3 e then (pathImage f e old).getD old else old) t

/-- R5: the number of enabled paths of a slot. -/
def enabledPaths (t : Vector PathEntry 384) (slot : Fin 96) : Nat :=
  t.toList.countP (fun e => e.state == .enabled && e.slot == slot)

/-- R5: two enabled paths name one block and either is adaptive. -/
def sharesBlock (a b : PathEntry) : Bool :=
  a.state == .enabled && b.state == .enabled && a.block == b.block && (a.adaptive || b.adaptive)

/-- R6: entry e of the resulting table fails the plan check. -/
def planFails (t : Vector PathEntry 384) (e : Nat) : Bool :=
  match t.toList[e]? with
  | some x =>
      x.state == .enabled &&
        (decide (8 < enabledPaths t x.slot) ||
          (mapFrom (fun i y => decide (i ≠ e) && sharesBlock x y) 0 t.toList).any id)
  | none => false

/-- R9: the updates a write appends, in ascending order of its entries. -/
def pathUpdates (f : MgmtFrame) (s : State) : List (Fin 384 × PathEntry) :=
  (f.touched 3).filterMap (fun e =>
    match toFin 384 e with
    | some i => (pathImage f e (projected s)[i]).map (fun x => (i, x))
    | none => none)

/-- R8, R9: applied at once while STOPPED, appended as pending updates while RUNNING. -/
def applyPath (f : MgmtFrame) (s : State) : State :=
  if s.running then { s with pathPending := s.pathPending ++ pathUpdates f s }
  else { s with pathTable := pathResult f s.pathTable }

/-- MWRITE of PATH. -/
def writePath (f : MgmtFrame) (s : State) : State :=
  writeTable 1152 (fun f s =>
    match (f.touched 3).find? (pathEntryFails f s) with
    | some e => refuseAt f .range (f.offsetIn 3 e) s
    | none =>
        match (f.touched 3).find? (planFails (pathResult f (projected s))) with
        | some e => refuseAt f .plan (f.offsetIn 3 e) s
        | none =>
            if s.running ∧ 16 < s.pathPending.length + (f.touched 3).length then refuseAt f .busy f.offset s
            else answer f .done (applyPath f s)) f s

/-- MWRITE_PATH (R6 to R9). -/
def execMwritePath (s : State) : Host.Outcome State Fault Refusal := onFrame .mwritePath writePath s

/-! ### TAPS (R82, R83) -/

/-- R83: a block is named by an enabled adaptive path of the projected table. -/
def protectedBlock (s : State) (b : Nat) : Bool :=
  (projected s).toList.any (fun e => e.state == .enabled && e.adaptive && e.block.1 == b)

/-- R82, R167: the taps a TAPS write writes, in frame order. -/
def tapWrites (f : MgmtFrame) : List (Nat × Word) :=
  if f.flag11 then mapFrom (fun i w => (f.offset + i, w)) 0 f.data else f.data.map (fun w => (f.offset, w))

/-- R82: the part of a TAPS write in one block. -/
def tapPart (f : MgmtFrame) (b : Nat) : List (Nat × Word) := (tapWrites f).filter (fun x => x.1 / 32 == b)

/-- R82: one block part per block addressed, each requested of its bank. -/
def requestWrites (f : MgmtFrame) : List Nat → State → State
  | [], s => s
  | b :: bs, s => requestWrites f bs (request (bankOf b) (.mgmtWrite (tapPart f b)) s)

/-- MWRITE of TAPS. -/
def writeTaps (f : MgmtFrame) (s : State) : State :=
  writeTable 16384 (fun f s =>
    match (f.touched 32).find? (protectedBlock s) with
    | some b => refuseAt f .busy (f.offsetIn 32 b) s
    | none => requestWrites f (f.touched 32) (setPhase f (.writing (f.touched 32).length) s)) f s

/-- MWRITE_TAPS (R82, R83). -/
def execMwriteTaps (s : State) : Host.Outcome State Fault Refusal := onFrame .mwriteTaps writeTaps s

/-! ### The other tables (R166, R191) -/

/-- R191: the mask entries a write touches. -/
def applyMask (f : MgmtFrame) (s : State) : State :=
  { s with noticeMask := mapEntries (fun k old => ((f.supplied k).map (fun w => flag w 0)).getD old) s.noticeMask }

/-- A write of NOTICE-MASK, a refused write of COUNTERS or STATUS (R166), or one whose table code names none. -/
def writeOther (f : MgmtFrame) (s : State) : State :=
  if !f.writeFormatOk then answer f .format s
  else match f.table with
    | 6 | 7 => refuseAt f .range f.offset s
    | 8 => writeTable 13 (fun f s => answer f .done (applyMask f s)) f s
    | _ => answer f .format s

/-- MWRITE (R167 to R169, R191). -/
def execMwrite (s : State) : Host.Outcome State Fault Refusal := onFrame .mwrite writeOther s

end Machine
end Sys2Proof
end

