-- ==== Sys2Proof/Machine/Reads.lean ====
section
/-! DEFINITION. MREAD: the words of every table (R170 to R172, R185, R199, R200). -/

namespace Sys2Proof
namespace Machine

/-! ### Counter and status words (R185, R200) -/

def PortCtr.all : List PortCtr := [.received, .valid, .damaged, .short, .babble, .format]
def LaneCtr.all : List LaneCtr := [.sent, .matched, .unmatched, .damaged, .short, .babble, .format]
def SlotCtr.all : List SlotCtr :=
  [.clamp, .adapted, .late, .stale, .sequence, .saturation, .overrun, .miss, .defer, .fault, .haltTimeout]
def GlobalCtr.all : List GlobalCtr := [.passOverrun, .reportDrops, .mgmtDrops, .parityE, .parityO, .parityH]

/-- R185: the counter at word j of entry e; none for a word that holds no counter. -/
def counterOf (e j : Nat) : Option CounterId :=
  match toFin 8 e, toFin 4 (e - 8), toFin 96 (e - 12) with
  | some p, _, _ => (PortCtr.all[j]?).map (.port p)
  | none, some l, _ => (LaneCtr.all[j]?).map (.lane l)
  | none, none, some t => (SlotCtr.all[j]?).map (.slot t)
  | none, none, none => if e = 108 then (GlobalCtr.all[j]?).map .global else none

/-- R200: the counter at an offset of COUNTERS. -/
def counterAt (off : Nat) : Option CounterId := counterOf (off / 12) (off % 12)

def counterWord (s : State) (off : Nat) : Word :=
  match counterAt off with
  | some i => s.counters.read i
  | none => 0

def PassOutcome.code : PassOutcome → Nat
  | .none => 0
  | .completed => 1
  | .overrun => 2
  | .restarted => 3

def Mgmt.code : Mgmt → Nat
  | .idle => 0
  | .executing _ _ => 1
  | .holding _ => 2

def DumpState.code : DumpState → Nat
  | .idle => 0
  | .reading => 1
  | .holding => 2
  | .finishing => 3

def PortMode.code : PortMode → Nat
  | .off => 0
  | .dark => 1
  | .qualifying => 2
  | .passing => 3

def ChannelState.code : ChannelState → Nat
  | .off => 0
  | .probe => 1
  | .run => 2
  | .halting => 3
  | .halted => 4
  | .retired => 5

def HaltCause.code : Option HaltCause → Nat
  | none => 0
  | some .command => 1
  | some .lane => 2
  | some .drive => 3

def SentKind.code : SentKind → Nat
  | .correct => 1
  | .probe => 2
  | .halt => 3

/-- R200: word j of the device entry. -/
def deviceWord (s : State) (j : Nat) : Word :=
  match j with
  | 0 => mkWord (num s.running * 32768 + num (s.pass.stage != .idle) * 16384 + s.pass.lastOutcome.code * 4096 +
      num s.parityFlags.e * 1024 + num s.parityFlags.o * 512 + num s.parityFlags.h * 256 + s.period)
  | 1 => s.seq
  | 2 => s.pass.seq
  | 3 => mkWord (s.pathPending.length * 256 + s.pass.walkPos)
  | 4 =>
      match s.engine with
      | some v => mkWord (32768 + v.slot.1 * 256 + s.reports.length)
      | none => mkWord s.reports.length
  | 5 =>
      match s.engine with
      | some v => v.seq
      | none => 0
  | 6 => mkWord (s.mgmt.code * 16384 + s.dump.state.code * 4096 + s.mgmtQueue.length)
  | 7 => if s.dump.state = .idle then 0 else mkWord s.dump.next.1
  | 8 => mkWord s.notices.length
  | _ => 0

/-- R200: word j of a port entry. -/
def portWord (q : Port) (j : Nat) : Word :=
  match j with
  | 0 => mkWord (q.mode.code * 16384 + num q.stable * 8192 + q.stableRun * 256 + q.run * 16 + q.linkErrors)
  | 1 => mkWord q.rate
  | _ => 0

/-- R200: word j of a source entry. -/
def sourceWord (q : Latch) (j : Nat) : Word :=
  match j with
  | 0 => q.value
  | 1 => mkWord (num q.fresh * 32768 + q.age)
  | _ => 0

/-- R137, R200: word j of a lane entry. -/
def laneWord (k : Lane) (j : Nat) : Word :=
  match j with
  | 0 => mkWord (num k.up * 32768 + num k.tx.isSome * 16384 + k.linkErrors * 256 + k.divisorInForce)
  | 1 => mkWord (k.timed.length * 256 + k.untimed.length)
  | _ => 0

/-- R115, R126, R139, R200: word j of a slot entry. -/
def slotWord (c : Channel) (r : Option OutRecord) (g : Gain) (j : Nat) : Word :=
  match j with
  | 0 => mkWord (c.state.code * 8192 + c.miss * 2048 + HaltCause.code c.cause * 512 + num r.isSome * 256 +
      (match r with
        | some x => x.kind.code * 64
        | none => 0) + g.quietRun)
  | 1 =>
      match r with
      | some x => x.seq
      | none => 0
  | 2 => mkWord (num g.last.isSome * 32768 + g.mu)
  | 3 => g.last.getD 0
  | _ => 0

/-- R200: the word at an offset of STATUS. -/
def statusWordAt (s : State) (off : Nat) : Word :=
  let e := off / 9
  let j := off % 9
  match e, toFin 8 (e - 1), toFin 48 (e - 9), toFin 4 (e - 57), toFin 96 (e - 61) with
  | 0, _, _, _, _ => deviceWord s j
  | _, some p, _, _, _ => portWord s.ports[p] j
  | _, none, some q, _, _ => sourceWord s.latches[q] j
  | _, none, none, some l, _ => laneWord s.lanes[l] j
  | _, none, none, none, some t => slotWord s.channels[t] s.outstanding[t] s.gain[t] j
  | _, none, none, none, none => 0

/-- Word j of the words of an entry that may be absent. -/
def wordOr (ws : Option (List Word)) (j : Nat) : Word := entryWord (ws.getD []) j

/-- R171: the word at an offset of a table other than TAPS. PATH is the current table (R13). -/
def tableWord (s : State) (table off : Nat) : Word :=
  match table with
  | 1 =>
      if off / 4 < 8 then wordOr ((s.portTable.toList[off / 4]?).map PortEntry.toWords) (off % 4)
      else wordOr ((s.laneTable.toList[off / 4 - 8]?).map LaneEntry.toWords) (off % 4)
  | 2 => wordOr ((s.sourceTable.toList[off / 2]?).map SourceEntry.toWords) (off % 2)
  | 3 => wordOr ((s.slotTable.toList[off / 6]?).map SlotEntry.toWords) (off % 6)
  | 4 => wordOr ((s.pathTable.toList[off / 3]?).map PathEntry.toWords) (off % 3)
  | 6 => counterWord s off
  | 7 => statusWordAt s off
  | 8 => mkWord (num ((s.noticeMask.toList[off]?).getD false))
  | _ => 0

/-! ### MREAD (R170 to R172) -/

/-- R170, R196: the FORMAT check of an MREAD, `clear` telling whether the clear flag may be set. -/
def readFormatOk (f : MgmtFrame) (clear : Bool) : Bool :=
  f.payload.length == 3 && 1 ≤ f.count && f.count ≤ 28 && (clear || !f.flag11)

/-- The last offset an MREAD addresses. -/
def lastRead (f : MgmtFrame) : Nat := f.offset + f.count - 1

/-- R170: the words read, in offset order. -/
def readWords (s : State) (f : MgmtFrame) : List Word :=
  (List.range' f.offset f.count).map (tableWord s f.table)

/-- The reply of a read that passes both checks. -/
def dataReply (f : MgmtFrame) (ws : List Word) : Reply := { plainReply f .done with data := ws }

/-- R171, R186: the words of COUNTERS and of STATUS are read one by one. -/
def wordByWord (table : Nat) : Bool := table == 6 || table == 7

/-- R171, R186: the next word of a read that has the words ws already, as it stands now; the last one completes the
read. -/
def readNext (f : MgmtFrame) (ws : List Word) (s : State) : State :=
  let all := ws ++ [tableWord s f.table (f.offset + ws.length)]
  setPhase f (if all.length < f.count then .collecting all else .finished (dataReply f all)) s

/-- R170, R171: the checks of a read of a table other than TAPS, without clear, and its words: the first one of a table
that is read word by word, all of them of another. -/
def readTable (f : MgmtFrame) (s : State) : State :=
  match readFormatOk f false, tableSize f.table with
  | true, some (n, width) =>
      match beyond f.offset (lastRead f) (n * width) with
      | some off => refuseAt f .range off s
      | none =>
          if wordByWord f.table then readNext f [] s
          else setPhase f (.finished (dataReply f (readWords s f))) s
  | _, _ => answer f .format s

/-- A row that reads word by word: its checks and its first word for the frame just taken, its next word for the frame
being read, so that another step may come between two words (R171, R186; log entry 15). -/
def onRead (row : MgmtRow) (first : MgmtFrame → State → State) (next : MgmtFrame → List Word → State → State)
    (s : State) : Host.Outcome State Fault Refusal :=
  live s (match s.mgmt with
    | .executing f .taken => if rowOf f = some row then first f s else s
    | .executing f (.collecting ws) => if rowOf f = some row then next f ws s else s
    | _ => s)

/-- MREAD (R170, R171, R186). -/
def execMread (s : State) : Host.Outcome State Fault Refusal := onRead .mread readTable readNext s

/-- R82: the block parts of a TAPS read, each requested of its bank. -/
def requestReads (f : MgmtFrame) (s : State) : State :=
  let n := min f.count ((f.offset / 32 + 1) * 32 - f.offset)
  let b := f.offset / 32
  if n = f.count then request (bankOf b) (.mgmtRead false f.offset n) (setPhase f (.reading none (some [])) s)
  else
    request (bankOf (b + 1)) (.mgmtRead true ((b + 1) * 32) (f.count - n))
      (request (bankOf b) (.mgmtRead false f.offset n) (setPhase f (.reading none none) s))

/-- A read of TAPS. -/
def readTaps (f : MgmtFrame) (s : State) : State :=
  if readFormatOk f false then
    match beyond f.offset (lastRead f) 16384 with
    | some off => refuseAt f .range off s
    | none => requestReads f s
  else answer f .format s

/-- MREAD_TAPS (R82, R170). -/
def execMreadTaps (s : State) : Host.Outcome State Fault Refusal := onFrame .mreadTaps readTaps s

/-- R172, R185: the counter at an offset set to 0; an offset that holds no counter changes nothing. -/
def clearCounter (off : Nat) (s : State) : State :=
  match counterAt off with
  | some i => { s with counters := s.counters.write i 0 }
  | none => s

/-- R172: the next word of a COUNTERS read with clear, the read and the clear of its counter one operation. -/
def clearNext (f : MgmtFrame) (ws : List Word) (s : State) : State :=
  clearCounter (f.offset + ws.length) (readNext f ws s)

/-- R170, R172: the checks of a COUNTERS read with clear, and its first word. -/
def readClear (f : MgmtFrame) (s : State) : State :=
  if readFormatOk f true then
    match beyond f.offset (lastRead f) 1308 with
    | some off => refuseAt f .range off s
    | none => clearNext f [] s
  else answer f .format s

/-- MREAD_COUNTERS_CLEAR (R172, R186). -/
def execMreadCountersClear (s : State) : Host.Outcome State Fault Refusal :=
  onRead .mreadCountersClear readClear clearNext s

end Machine
end Sys2Proof
end

