-- ==== Sys2Proof/Machine/Actions.lean ====
section
/-! DEFINITION. MACT: the eleven actions (R173), and the Management Unit's and the return's own steps (R165, R182). -/

namespace Sys2Proof
namespace Machine

/-- R173 steps 2 and 3: the first argument, refused with FORMAT where it is missing and with RANGE where it is out of
range. -/
def withArg (n : Nat) (act : Fin n → MgmtFrame → State → State) (f : MgmtFrame) (s : State) : State :=
  match f.arg1 with
  | none => answer f .format s
  | some a =>
      match toFin n a with
      | none => answer f .range s
      | some i => act i f s

/-- R55: RUN with period argument a. -/
def actRun (f : MgmtFrame) (s : State) : State :=
  match f.arg1 with
  | none => answer f .format s
  | some a =>
      if a ≠ 0 ∧ (a < 16 ∨ 250 < a) then answer f .range s
      else
        let p := if a = 0 then s.period else a
        if s.running then answer f .done { s with period := p }
        else answer f .done { s with period := p, running := true, timer := some p }

/-- RUN (R54, R55). -/
def execRun (s : State) : Host.Outcome State Fault Refusal := onFrame .run actRun s

/-- R56, R12: the timer stops, the pending updates are made current, the device is STOPPED. -/
def stopDevice (s : State) : State := { applyPending s with running := false, timer := none }

/-- R56: while STOPPED, STOP changes nothing. -/
def actStop (f : MgmtFrame) (s : State) : State := answer f .done (if s.running then stopDevice s else s)

/-- STOP (R56). -/
def execStop (s : State) : Host.Outcome State Fault Refusal := onFrame .stop actStop s

/-! ### RESTART (R174) -/

/-- R76 step 2: a pass in flight is to end after its slot or stage; with no slot left it ends at once. A pass that an
expiry already ends stays an overrun (log entry 20). -/
def restartPass (s : State) : State :=
  match s.pass.stage with
  | .idle => clearHistory s
  | .push => { s with pass := { s.pass with ending := s.pass.ending.or (some .restart) } }
  | .walk =>
      if 96 ≤ s.pass.walkPos then endPass .restarted s
      else { s with pass := { s.pass with ending := s.pass.ending.or (some .restart) } }

/-- R111: the report queue emptied, the walk stopped or left to end its update, every gain state reset. An update that
still waits for a pass's push is not under way (log entry 33, DESIGN CHOICE): its path is not updated. -/
def restartEngine (s : State) : State :=
  { s with
    reports := []
    engine := match s.engine with
      | some v => if v.updating then some { v with abandon := true } else none
      | none => none
    gain := mapEntries (fun i g =>
      match s.slotTable.toList[i]? with
      | some e => { g with mu := e.muStart, quietRun := 0, last := none }
      | none => g) s.gain }

/-- R135, R154: queues and outstanding tables emptied, every channel OFF; a frame in transmission goes on and will
enter no record. -/
def restartLanes (s : State) : State :=
  { s with
    lanes := mapEntries (fun _ k => { k with
      timed := [], untimed := [], tx := k.tx.map (fun x => { x with enters := false }) }) s.lanes
    outstanding := Vector.replicate 96 none
    channels := Vector.replicate 96 Channel.reset }

/-- R180: a block read of the dump is requested or under way. -/
def dumpReadOut (s : State) : Bool :=
  let here (k : Bank) : Bool := k.waitDump.isSome || (match k.busy with
    | some u => (match u.op with
      | .dumpRead _ => true
      | _ => false)
    | none => false)
  here s.bankE || here s.bankO

/-- R180: RESTART aborts a dump in progress, by the dump state. -/
def restartDump (s : State) : State :=
  match s.dump.state with
  | .idle => s
  | .reading => if dumpReadOut s then { s with dump := { s.dump with aborting := true } } else placeAborted s
  | .holding => placeAborted s
  | .finishing => if s.ret.dumpPlace.isSome then placeAborted s else s

/-- R174: RESTART acts on every block at once. -/
def actRestart (f : MgmtFrame) (s : State) : State :=
  let s := setPhase f .restarting (stopDevice s)
  let s := restartLanes (restartEngine s)
  restartDump (restartPass { s with latches := Vector.replicate 48 Latch.reset })

/-- RESTART (R174). -/
def execRestart (s : State) : Host.Outcome State Fault Refusal := onFrame .restart actRestart s

/-! ### Channel actions (R141 to R143) -/

/-- R141. -/
def startChannel (t : Fin 96) (f : MgmtFrame) (s : State) : State :=
  match s.channels[t].state with
  | .off =>
      if s.slotTable[t].enabled then answer f .done (setChannel t (Channel.at .probe) s) else answer f .state s
  | .halted => answer f .done (raise .channelState t.1 (setChannel t (Channel.at .probe) s))
  | .probe | .run | .halting | .retired => answer f .state s

/-- START_SLOT (R141). -/
def execStartSlot (s : State) : Host.Outcome State Fault Refusal := onFrame .startSlot (withArg 96 startChannel) s

/-- R142: HALTING, the timed entry flushed, a HALT entry with the current sequence at the tail of the untimed queue. -/
def enterHalting (t : Fin 96) (s : State) : State :=
  let s := flushTimed t (setChannel t (Channel.at .halting) s)
  let k := s.lanes[slotLane t]
  laneChoose (slotLane t) (setLane (slotLane t) { k with untimed := k.untimed ++ [⟨t, s.seq, false⟩] } s)

/-- R142. -/
def haltChannel (t : Fin 96) (f : MgmtFrame) (s : State) : State :=
  match s.channels[t].state with
  | .run | .probe =>
      if s.lanes[slotLane t].untimed.length < 8 then answer f .done (enterHalting t s) else answer f .busy s
  | .halting | .halted => answer f .done s
  | .off | .retired => answer f .state s

/-- HALT_SLOT (R142). -/
def execHaltSlot (s : State) : Host.Outcome State Fault Refusal := onFrame .haltSlot (withArg 96 haltChannel) s

/-- R143. -/
def releaseChannel (t : Fin 96) (f : MgmtFrame) (s : State) : State :=
  match s.channels[t].state with
  | .halted | .retired => answer f .done (setChannel t (Channel.at .off) s)
  | .off => answer f .done s
  | .run | .probe | .halting => answer f .state s

/-- RELEASE_SLOT (R143). -/
def execReleaseSlot (s : State) : Host.Outcome State Fault Refusal :=
  onFrame .releaseSlot (withArg 96 releaseChannel) s

/-! ### The other actions -/

/-- R97. -/
def actGainRestart (t : Fin 96) (f : MgmtFrame) (s : State) : State :=
  answer f .done { s with gain := s.gain.set t ⟨s.slotTable[t].muStart, 0, none⟩ }

/-- GAIN_RESTART (R97). -/
def execGainRestart (s : State) : Host.Outcome State Fault Refusal :=
  onFrame .gainRestart (withArg 96 actGainRestart) s

/-- CLEAR_PARITY (R88). -/
def execClearParity (s : State) : Host.Outcome State Fault Refusal :=
  onFrame .clearParity (fun f s => answer f .done { s with parityFlags := ⟨false, false, false⟩ }) s

/-- R173, R176: DUMP of blocks a to b; the first block's read waits for the reply to be placed. -/
def actDump (f : MgmtFrame) (s : State) : State :=
  match f.arg1, f.arg2 with
  | some a, some b =>
      match toFin 512 a, toFin 512 b with
      | some first, some last =>
          if last < first then answer f .range s
          else if s.dump.state = .idle then
            setPhase f (.finished { plainReply f .done with startsDump := true })
              { s with dump := { s.dump with state := .reading, next := first, last := last } }
          else answer f .busy s
      | _, _ => answer f .range s
  | _, _ => answer f .format s

/-- DUMP (R176). -/
def execDump (s : State) : Host.Outcome State Fault Refusal := onFrame .dump actDump s

/-- R122: an UP lane enters DOWN; a DOWN lane is emptied and trains afresh, with no notice. -/
def actLaneReset (l : Fin 4) (f : MgmtFrame) (s : State) : State :=
  answer f .done (if s.lanes[l].up then laneEnterDown l s else laneEmpty l s)

/-- LANE_RESET (R122). -/
def execLaneReset (s : State) : Host.Outcome State Fault Refusal := onFrame .laneReset (withArg 4 actLaneReset) s

/-- R39: any port but one in OFF goes to DARK with its entry effects. -/
def actPortReset (p : Fin 8) (f : MgmtFrame) (s : State) : State :=
  answer f .done (if s.ports[p].mode = .off then s else portLeave p .dark s)

/-- PORT_RESET (R39). -/
def execPortReset (s : State) : Host.Outcome State Fault Refusal := onFrame .portReset (withArg 8 actPortReset) s

/-! ### The Management Unit's own steps (R165) -/

/-- MGMT_FRAME_TAKE (R165): the idle unit takes the head of its queue. An MACT that R196 refuses for its length or its
code has no row: its outcome, FORMAT, is known at once (log entry 16). -/
def mgmtFrameTake (s : State) : State :=
  match s.mgmt, s.mgmtQueue with
  | .idle, f :: rest =>
      let s := { s with mgmtQueue := rest }
      match rowOf f with
      | some _ => setPhase f .taken s
      | none => answer f .format s
  | _, _ => s

def execMgmtFrameTake (s : State) : Host.Outcome State Fault Refusal := live s (mgmtFrameTake s)

/-- R165: the reply of a frame whose execution is complete; none while an effect is outstanding. -/
def completion (s : State) : Option Reply :=
  match s.mgmt with
  | .executing f .restarting => if restartSettled s then some (plainReply f .done) else none
  | m => readyReply m

/-- EXECUTION_COMPLETE (R165, R176, R182): the REPLY is placed, or held while the reply place is full. It is a command
after the one that ends the frame's effects (log entry 34, DEDUCED). -/
def executionComplete (s : State) : State :=
  match completion s with
  | none => s
  | some r =>
      if s.ret.replyPlace.isNone then placeReply r s else { s with mgmt := .holding r }

def execExecutionComplete (s : State) : Host.Outcome State Fault Refusal := live s (executionComplete s)

/-- R179: the frame whose transmission ended is the LAST one of the dump. -/
def endsDump (f : ReturnFrame) (s : State) : Bool :=
  match f with
  | .dump d => d.last && s.dump.state == .finishing && s.ret.dumpPlace.isNone
  | .reply _ | .notice _ => false

/-- RETURN_TRANSMIT_END (R179, R182): the line is idle; the end of the LAST frame ends its dump with DUMP-DONE. The
arbiter then chooses the next frame (`live`). -/
def returnTransmitEnd (s : State) : State :=
  match s.ret.line with
  | none => s
  | some f =>
      let t := { s with ret := { s.ret with line := none } }
      if endsDump f s then raise .dumpDone 0 { t with dump := { t.dump with state := .idle } } else t

def execReturnTransmitEnd (s : State) : Host.Outcome State Fault Refusal := live s (returnTransmitEnd s)

/-! ### Power -/

/-- R202: the part while RESET_N is held low: every block at its power-on value, nothing training or sending. The
queue of commands is not the part's, and the model's count of entries to UP goes on. -/
def heldInReset (s : State) : State :=
  { State.reset with
    resetHeld := true
    ports := State.reset.ports.set 0 (Port.reset .dark false)
    lanes := Vector.replicate 4 (Lane.reset false)
    resumes := s.resumes
    pending := s.pending }

/-- POWER_ON_RESET (R202). -/
def execPowerOnReset (s : State) : Host.Outcome State Fault Refusal := .next (heldInReset s)

/-- R118, R201, R202: the part leaves reset: S0's line receiver and the lanes begin to train, each lane at the divisor
it reads now. -/
def releaseReset (s : State) : State :=
  { s with
    resetHeld := false
    ports := s.ports.set 0 { s.ports[0] with training := true }
    lanes := mapEntries (fun i k =>
      { k with training := true, divisorInForce := ((s.laneTable.toList[i]?).map (·.divisor)).getD k.divisorInForce })
      s.lanes }

/-- RESET_RELEASE (R201, R202); with RESET_N already high nothing is released. -/
def execResetRelease (s : State) : Host.Outcome State Fault Refusal :=
  .next (if s.resetHeld then releaseReset s else s)

end Machine
end Sys2Proof
end

