-- ==== Sys2Proof/Machine/Dispatch.lean ====
section
/-! DEFINITION. exec: one arm per command. -/

namespace Sys2Proof
namespace Machine

def exec (i : Instr) (s : State) : Host.Outcome State Fault Refusal :=
  match i with
  | .powerOnReset => Sys2Proof.Machine.execPowerOnReset s
  | .resetRelease => Sys2Proof.Machine.execResetRelease s
  | .portLinkLock p => Sys2Proof.Machine.execPortLinkLock p s
  | .portLossOfLock p => Sys2Proof.Machine.execPortLossOfLock p s
  | .portSymbolError p => Sys2Proof.Machine.execPortSymbolError p s
  | .portWordReceived p w => Sys2Proof.Machine.execPortWordReceived p w s
  | .portStartMark p => Sys2Proof.Machine.execPortStartMark p s
  | .portEndMark p => Sys2Proof.Machine.execPortEndMark p s
  | .portWatchdogExpiry p => Sys2Proof.Machine.execPortWatchdogExpiry p s
  | .portRateGateEnd p => Sys2Proof.Machine.execPortRateGateEnd p s
  | .periodExpiry => Sys2Proof.Machine.execPeriodExpiry s
  | .passPush => Sys2Proof.Machine.execPassPush s
  | .walkSlot => Sys2Proof.Machine.execWalkSlot s
  | .passComplete => Sys2Proof.Machine.execPassComplete s
  | .tapOperationComplete b => Sys2Proof.Machine.execTapOperationComplete b s
  | .reportTake => Sys2Proof.Machine.execReportTake s
  | .adaptPathUpdate => Sys2Proof.Machine.execAdaptPathUpdate s
  | .laneLinkLock l => Sys2Proof.Machine.execLaneLinkLock l s
  | .laneLossOfLock l => Sys2Proof.Machine.execLaneLossOfLock l s
  | .laneSymbolError l => Sys2Proof.Machine.execLaneSymbolError l s
  | .laneWordReceived l w => Sys2Proof.Machine.execLaneWordReceived l w s
  | .laneStartMark l => Sys2Proof.Machine.execLaneStartMark l s
  | .laneEndMark l => Sys2Proof.Machine.execLaneEndMark l s
  | .laneTransmitEnd l => Sys2Proof.Machine.execLaneTransmitEnd l s
  | .answerWindowExpiry l slot => Sys2Proof.Machine.execAnswerWindowExpiry l slot s
  | .mgmtFrameTake => Sys2Proof.Machine.execMgmtFrameTake s
  | .mwritePort => Sys2Proof.Machine.execMwritePort s
  | .mwriteSource => Sys2Proof.Machine.execMwriteSource s
  | .mwriteSlot => Sys2Proof.Machine.execMwriteSlot s
  | .mwritePath => Sys2Proof.Machine.execMwritePath s
  | .mwriteTaps => Sys2Proof.Machine.execMwriteTaps s
  | .mwrite => Sys2Proof.Machine.execMwrite s
  | .mread => Sys2Proof.Machine.execMread s
  | .mreadTaps => Sys2Proof.Machine.execMreadTaps s
  | .mreadCountersClear => Sys2Proof.Machine.execMreadCountersClear s
  | .run => Sys2Proof.Machine.execRun s
  | .stop => Sys2Proof.Machine.execStop s
  | .restart => Sys2Proof.Machine.execRestart s
  | .startSlot => Sys2Proof.Machine.execStartSlot s
  | .haltSlot => Sys2Proof.Machine.execHaltSlot s
  | .releaseSlot => Sys2Proof.Machine.execReleaseSlot s
  | .gainRestart => Sys2Proof.Machine.execGainRestart s
  | .clearParity => Sys2Proof.Machine.execClearParity s
  | .dump => Sys2Proof.Machine.execDump s
  | .laneReset => Sys2Proof.Machine.execLaneReset s
  | .portReset => Sys2Proof.Machine.execPortReset s
  | .executionComplete => Sys2Proof.Machine.execExecutionComplete s
  | .returnTransmitEnd => Sys2Proof.Machine.execReturnTransmitEnd s

end Machine
end Sys2Proof
end

