-- ==== Sys2Proof/Safety.lean ====
section
/-! DEFINITION. What a safe state of the part is: the invariants that the spec's prose gives. Each is stated in
Certificates/Slice0/Obligations.lean as kept by every step. -/

namespace Sys2Proof
namespace Machine

/-! ### What a report may touch -/

/-- t differs from s at most in what the return holds: the return arbiter's choice at an idle line (R182), which may
move a held reply or dump frame up and so request a dump read (R165, R177). -/
def OnlyReturn (s t : State) : Prop :=
  t = { s with notices := t.notices, ret := t.ret, mgmt := t.mgmt, dump := t.dump, bankE := t.bankE, bankO := t.bankO }

/-- t differs from s at most in the counters, the sticky parity flags and the notice list: a raise (R190), an increment
(R184, R187) or a parity check (R85). -/
def OnlyCounts (s t : State) : Prop :=
  t = { s with counters := t.counters, parityFlags := t.parityFlags, notices := t.notices }

/-! ### What entry to DARK, OFF or DOWN leaves -/

/-- R39, R33: what entry to DARK leaves of a port: its measured rate. The receiver trains. -/
def darkPort (rate : Nat) : Port where
  mode := .dark
  training := true
  run := 0
  linkErrors := 0
  watchdog := none
  gate := none
  rate := rate
  stableRun := 0
  stable := false
  rx := none

/-- R39: what entry to OFF leaves of a port. -/
def offPort (rate : Nat) : Port := { darkPort rate with mode := .off, training := false }

/-- R118, R120: what entry to DOWN leaves of a lane, at the line divisor it reads. -/
def downLane (divisor : Nat) : Lane where
  up := false
  training := true
  divisorInForce := divisor
  linkErrors := 0
  timed := []
  untimed := []
  rx := none
  tx := none

/-- R120, R152: u is s with lane l emptied: its lines, queues, link errors and outstanding records gone with no miss,
its RUN, PROBE and HALTING channels HALTED with cause LANE, its link training; every other lane and slot is as
before. -/
structure LaneEmptied (l : Fin 4) (s u : State) : Prop where
  frame : u = { s with lanes := u.lanes, outstanding := u.outstanding, channels := u.channels }
  lanes : u.lanes = s.lanes.set l (downLane s.laneTable[l].divisor)
  own : ∀ t : Fin 96, slotLane t = l → u.outstanding[t] = none ∧ u.channels[t] =
    if s.channels[t].state = .run ∨ s.channels[t].state = .probe ∨ s.channels[t].state = .halting then
      ⟨.halted, 0, some .lane⟩
    else s.channels[t]
  others : ∀ t : Fin 96, slotLane t ≠ l → u.outstanding[t] = s.outstanding[t] ∧ u.channels[t] = s.channels[t]

/-- R151: slot t's waiting timed entry is gone from its lane's queue. -/
def withoutTimed (t : Fin 96) (s : State) : State :=
  setLane (slotLane t) { s.lanes[slotLane t] with
    timed := s.lanes[slotLane t].timed.filter (fun e => decide (e.slot ≠ t)) } s

/-! ### What follows the slot or the stage at which a pass stands -/

/-- R57, R73: the pass of u has ended as an overrun, counted and raised, and the pass that waits longest has begun: its
sequence lies as many before the current one as further expiries wait, and these, or a waiting RESTART, end it after
its push. -/
def overrunInto (u : State) : State :=
  { raise .passOverrun 0 (incr (.global .passOverrun) u) with
    pathTable := projected u
    pathPending := []
    pass := {
      stage := .push
      seq := u.seq - BitVec.ofNat 16 (u.pass.waiting - 1)
      walkPos := 0
      lastOutcome := .overrun
      ending := if 1 < u.pass.waiting then some .overrun else if restartWaiting u then some .restart else none
      waiting := u.pass.waiting - 1
      elapsedNs := 0
      comp := none } }

/-- R76 steps 2 to 4: RESTART has ended the pass of u, with walk position n, and cleared the History Store. -/
def restartedAt (n : Nat) (u : State) : State :=
  { u with
    history := []
    pushPos := 0
    seq := 0
    pass := { u.pass with stage := .idle, walkPos := n, lastOutcome := .restarted, ending := none, comp := none } }

/-- R65, R73, R76: the walk of u has finished with its slot: it goes on, or the pass ends. -/
def slotFinished (u : State) : State :=
  match u.pass.ending with
  | none => { u with pass := { u.pass with walkPos := u.pass.walkPos + 1 } }
  | some .overrun => overrunInto u
  | some .restart => restartedAt (u.pass.walkPos + 1) u

/-- What an ending pass has to end it: a pass cut by an expiry has that expiry's pass waiting, a pass that RESTART ends
has none waiting and RESTART in execution (R73, R76). -/
structure EndingHolds (s : State) : Prop where
  overrun : s.pass.ending = some .overrun → 0 < s.pass.waiting
  restart : s.pass.ending = some .restart → s.pass.waiting = 0 ∧ restartWaiting s = true

/-! ### The adaptation walk -/

/-- R101: path i is one that the walk for slot t updates. -/
def Adapts (s : State) (t : Fin 96) (i : Fin 384) : Prop :=
  s.pathTable[i].state = .enabled ∧ s.pathTable[i].adaptive = true ∧ s.pathTable[i].slot = t

/-- R101, R109, R110: the walk of service v goes on in s from path i, and leaves u. It stands at the next path that it
updates; with none left the gain step has been made and the engine is idle, in the same step (log entry 14). -/
structure WalkGoesOn (v : Service) (i : Nat) (s u : State) : Prop where
  next : ∀ j : Fin 384, i ≤ j.1 → Adapts s v.slot j → (∀ k : Fin 384, i ≤ k.1 → k < j → ¬ Adapts s v.slot k) →
    u = { s with engine := some { v with pathPos := j.1, updating := false } }
  ended : (∀ k : Fin 384, i ≤ k.1 → ¬ Adapts s v.slot k) →
    let e := s.slotTable[v.slot]
    let g := s.gain[v.slot]
    let m := v.residual.toInt.natAbs
    u = { s with engine := none, gain := s.gain.set v.slot (
      if e.burst ≤ m then ⟨min e.muCeiling (2 * g.mu), 0, g.last⟩
      else if m < e.quiet ∧ g.quietRun + 1 < 16 then ⟨g.mu, g.quietRun + 1, g.last⟩
      else if m < e.quiet then ⟨max e.muFloor (g.mu / 2), 0, g.last⟩
      else ⟨g.mu, 0, g.last⟩) }

/-! ### Where a management row acts -/

/-- R165: the Management Unit has just taken frame f, which the given row executes; RESET_N is high. -/
structure Executing (row : MgmtRow) (f : MgmtFrame) (s : State) : Prop where
  awake : s.resetHeld = false
  taken : s.mgmt = .executing f .taken
  row : rowOf f = some row

/-- R165: the state with frame f's effects complete and its reply known. -/
def replied (f : MgmtFrame) (r : Reply) (s : State) : State := { s with mgmt := .executing f (.finished r) }

/-- R165, R198: a reply with a status and neither data nor an offset. -/
def statusReply (f : MgmtFrame) (st : Status) : Reply := ⟨f.tag, st, none, none, [], false⟩

/-- R174: the work RESTART lets finish has ended: no pass in flight, no abandoned walk of the adapter, no dump abort
under way. -/
def RestartSettled (s : State) : Prop :=
  s.pass.stage = .idle ∧ (∀ v, s.engine = some v → v.abandon = false) ∧ s.dump.aborting = false

/-- R82, R86, R165: the effects of frame f are complete and r is its reply: one whose reply is known (RESTART's among
them once `settleRestart` has found its work ended), a TAPS write with no part left, or a TAPS read with both its parts
read, whose reply carries the words as stored and the position of the first failing one. -/
def ReplyReady (f : MgmtFrame) (r : Reply) (s : State) : Prop :=
  s.mgmt = .executing f (.finished r) ∨ (s.mgmt = .executing f (.writing 0) ∧ r = statusReply f .done) ∨
    ∃ a b, s.mgmt = .executing f (.reading (some a) (some b)) ∧ r = { statusReply f .done with
      data := (a ++ b).map (·.value), parityPos := (a ++ b).findIdx? (fun w => !w.good) }

/-! ### Invariants -/

/-- The two stores list no address twice, addresses rise, and nothing listed equals what an unlisted address reads
(log entry 22). -/
structure StoresCanonical (s : State) : Prop where
  taps : s.taps.wf = true
  history : s.history.wf = true

/-- The capacities of R10, R91, R158 and R164; and R10: no update is pending while STOPPED. -/
structure QueuesBounded (s : State) : Prop where
  reports : s.reports.length ≤ 16
  mgmt : s.mgmtQueue.length ≤ 4
  pending : s.pathPending.length ≤ 16
  stopped : s.running = false → s.pathPending = []
  untimed : ∀ l : Fin 4, s.lanes[l].untimed.length ≤ 8

/-- R151, R155: a lane's timed queue holds at most one entry a slot, of its own slots, and a RUN slot's entry is a
CORRECT, a PROBE slot's a PROBE, any other slot has none. -/
structure TimedConsistent (s : State) : Prop where
  onLane : ∀ l : Fin 4, ∀ e ∈ s.lanes[l].timed, slotLane e.slot = l
  once : ∀ l : Fin 4, (s.lanes[l].timed.map (·.slot)).Nodup
  kind : ∀ l : Fin 4, ∀ e ∈ s.lanes[l].timed, s.channels[e.slot].state = e.kind.channelState

/-- R140, R150, R151, R160: what waits or is out for a slot goes with its channel. A HALT waits only for a HALTING
channel, once, and not while a HALT of its slot is out or on the line; a frame out or on the line belongs to a live
channel, a HALT to a HALTING one; a slot whose frame is on the line, and will be recorded, has none out. -/
structure TrafficConsistent (s : State) : Prop where
  timed : TimedConsistent s
  untimedOn : ∀ l : Fin 4, ∀ e ∈ s.lanes[l].untimed, slotLane e.slot = l
  untimedOnce : ∀ l : Fin 4, (s.lanes[l].untimed.map (·.slot)).Nodup
  untimed : ∀ l : Fin 4, ∀ e ∈ s.lanes[l].untimed, s.channels[e.slot].state = .halting ∧
    (∀ r, s.outstanding[e.slot] = some r → r.kind ≠ .halt) ∧
    (∀ x, s.lanes[l].tx = some x → x.enters = true → x.frame.slot = e.slot → x.frame.sentKind ≠ .halt)
  out : ∀ t : Fin 96, ∀ r, s.outstanding[t] = some r →
    (r.kind = .halt ∧ s.channels[t].state = .halting) ∨
      (r.kind ≠ .halt ∧ (s.channels[t].serving = true ∨ s.channels[t].state = .halting))
  txOn : ∀ l : Fin 4, ∀ x, s.lanes[l].tx = some x → slotLane x.frame.slot = l
  tx : ∀ l : Fin 4, ∀ x, s.lanes[l].tx = some x → x.enters = true → s.outstanding[x.frame.slot] = none ∧
    ((x.frame.sentKind = .halt ∧ s.channels[x.frame.slot].state = .halting) ∨
      (x.frame.sentKind ≠ .halt ∧
        (s.channels[x.frame.slot].serving = true ∨ s.channels[x.frame.slot].state = .halting)))

/-- R66, R140: a slot whose channel is not OFF is enabled. -/
def LiveSlotsEnabled (s : State) : Prop :=
  ∀ t : Fin 96, s.channels[t].state ≠ .off → s.slotTable[t].enabled = true

/-- R139: the miss count is 0, 1 or 2, and 0 outside RUN and PROBE; the halt cause is present in HALTED and nowhere
else. -/
structure ChannelLegal (c : Channel) : Prop where
  miss : c.miss ≤ 2
  resting : c.serving = false → c.miss = 0
  cause : c.cause.isSome = true ↔ c.state = .halted

def ChannelsLegal (s : State) : Prop := ∀ t : Fin 96, ChannelLegal s.channels[t]

/-- R94, R95: floor ≤ start ≤ ceiling in the Slot Table, the current mu within floor and ceiling, the quiet run at
most 15. -/
structure GainLegal (s : State) : Prop where
  order : ∀ t : Fin 96, 1 ≤ s.slotTable[t].muFloor ∧ s.slotTable[t].muFloor ≤ s.slotTable[t].muStart ∧
    s.slotTable[t].muStart ≤ s.slotTable[t].muCeiling ∧ s.slotTable[t].muCeiling ≤ 255
  mu : ∀ t : Fin 96, s.slotTable[t].muFloor ≤ s.gain[t].mu ∧ s.gain[t].mu ≤ s.slotTable[t].muCeiling
  quiet : ∀ t : Fin 96, s.gain[t].quietRun ≤ 15

/-- R188: how many indices a notice kind has. -/
def NoticeKind.indices : NoticeKind → Nat
  | .portUp | .portDown => 8
  | .laneUp | .laneDown => 4
  | .channelState | .slotOverrun | .haltUnanswered => 96
  | .parity => 3
  | .passOverrun | .mgmtDrop | .adaptDrop | .dumpDone | .counterFull => 1

/-- R189, R190: each condition key at most once, its index in its kind's range, its count 1 to 255. -/
structure NoticesLegal (s : State) : Prop where
  once : (s.notices.map (fun n => (n.kind, n.index))).Nodup
  index : ∀ n ∈ s.notices, n.index < n.kind.indices
  count : ∀ n ∈ s.notices, 1 ≤ n.count ∧ n.count ≤ 255

/-- R5: the two plan constraints of a Path Table. -/
structure PlanConstraints (t : Vector PathEntry 384) : Prop where
  slots : ∀ slot : Fin 96, enabledPaths t slot ≤ 8
  blocks : ∀ i j : Fin 384, i ≠ j → sharesBlock t[i] t[j] = false

/-- R5: the current and the projected table satisfy the plan constraints; while STOPPED they are one (R10). -/
structure PlanHolds (s : State) : Prop where
  current : PlanConstraints s.pathTable
  projected : PlanConstraints (projected s)
  stopped : s.running = false → s.pathPending = []

/-- R2, R14, R31, R44, R66, R94, R116: every table entry, and every pending image, is in its ranges. -/
structure TablesInRange (s : State) : Prop where
  ports : ∀ p : Fin 8, s.portTable[p].inRange = true
  lanes : ∀ l : Fin 4, s.laneTable[l].inRange = true
  sources : ∀ q : Fin 48, s.sourceTable[q].inRange = true
  slots : ∀ t : Fin 96, s.slotTable[t].inRange = true
  paths : ∀ i : Fin 384, s.pathTable[i].inRange = true
  pending : ∀ x ∈ s.pathPending, x.2.inRange = true

/-- R45: no two used Source Table entries have the same key. -/
def KeysUnique (s : State) : Prop := ∀ a b : Fin 48, a ≠ b → sameKey s.sourceTable[a] s.sourceTable[b] = false

/-- R25, R32, R37, R39, R41: in OFF and DARK a port collects nothing, has its runs and count at 0, its watchdog
stopped and no gate; in QUALIFYING and PASSING its watchdog and a gate run. S0 is never OFF. -/
structure PortsLegal (s : State) : Prop where
  idle : ∀ p : Fin 8, s.ports[p].active = false → s.ports[p].run = 0 ∧ s.ports[p].linkErrors = 0 ∧
    s.ports[p].stableRun = 0 ∧ s.ports[p].stable = false ∧ s.ports[p].watchdog = none ∧ s.ports[p].gate = none ∧
    s.ports[p].rx = none
  active : ∀ p : Fin 8, s.ports[p].active = true → s.ports[p].watchdog.isSome = true ∧ s.ports[p].gate.isSome = true
  s0 : s.ports[0].mode ≠ .off

/-- R79: a bank with no operation under way has none waiting. -/
def BanksBusy (s : State) : Prop :=
  ∀ b : BankId, (s.bank b).busy = none → (s.bank b).free = true

/-- R165, R177, R182: an idle return line has nothing to send; a reply is held only behind a full reply place, a dump
frame only behind a full dump place. -/
structure ReturnBusy (s : State) : Prop where
  line : s.ret.line = none → s.ret.replyPlace = none ∧ s.notices = [] ∧ s.ret.dumpPlace = none
  reply : ∀ r, s.mgmt = .holding r → s.ret.replyPlace.isSome = true
  dump : s.dump.held.isSome = true → s.ret.dumpPlace.isSome = true

/-- R160, R161: an UP lane with a free line has no eligible entry; its queues hold its own slots only. -/
structure LanesBusy (s : State) : Prop where
  timedOn : ∀ l : Fin 4, ∀ e ∈ s.lanes[l].timed, slotLane e.slot = l
  untimedOn : ∀ l : Fin 4, ∀ e ∈ s.lanes[l].untimed, slotLane e.slot = l
  free : ∀ l : Fin 4, s.lanes[l].up = true → s.lanes[l].tx = none → laneNext s s.lanes[l] = none

/-- R118, R120: a DOWN lane transmits and collects nothing, has no link errors and no outstanding record. -/
structure LanesLegal (s : State) : Prop where
  down : ∀ l : Fin 4, s.lanes[l].up = false → s.lanes[l].tx = none ∧ s.lanes[l].rx = none ∧ s.lanes[l].linkErrors = 0
  records : ∀ t : Fin 96, s.lanes[slotLane t].up = false → s.outstanding[t] = none
  txOn : ∀ l : Fin 4, ∀ x, s.lanes[l].tx = some x → slotLane x.frame.slot = l
  timedOn : ∀ l : Fin 4, ∀ e ∈ s.lanes[l].timed, slotLane e.slot = l
  untimedOn : ∀ l : Fin 4, ∀ e ∈ s.lanes[l].untimed, slotLane e.slot = l

/-- R53, R54, R57, R59, R61: the timer runs exactly while RUNNING, P and the push position are in range, and the walk
position is at most 96, below it while a slot is in computation. -/
structure DeviceLegal (s : State) : Prop where
  timer : s.timer.isSome = true ↔ s.running = true
  period : 16 ≤ s.period ∧ s.period ≤ 250
  push : s.pushPos < 48
  walk : s.pass.walkPos ≤ 96
  comp : s.pass.comp.isSome = true → s.pass.walkPos < 96

end Machine
end Sys2Proof
end

