-- ==== Sys2Proof/Certificates/Slice0/Obligations.lean ====
section
/-! DEFINITION. The statements for the provers, from the numbered rules of spec/, chapter by chapter. A frame is said
by an equation of states: the next state is the one before it with the fields named. Where a step raises a notice or
counts, the next state is written with `raise` and `incr`, whose own effects RaiseAddsOneOccurrence and
IncrementSaturates state. Every step but the two of power-on reset ends with the return arbiter's choice (R182),
written `returnChoose`, whose effect ReturnChoosesNext states: on a busy line, or with no frame waiting, none. -/

open Sys2Proof Sys2Proof.Machine

/-! ### The block as a whole -/

/-- A step runs the command at the front of the queue on the state with the queue's rest; on an empty queue the block
idles (the model's choice, log entry 4). -/
def Obligations.StepRunsFrontCommand : Prop :=
  (∀ (c : Instr) (rest : List Instr) (s : State), s.pending = c :: rest →
    step s = exec c { s with pending := rest }) ∧
  ∀ s : State, s.pending = [] → step s = .next s

/-- Every command answers a next state and leaves the queue of commands as it was; while RESET_N is low (R201, R202)
none but the two reset commands changes anything (the model's choices, log entries 2 and 3). -/
def Obligations.CommandsCompleteAndKeepQueue : Prop :=
  ∀ (c : Instr) (s : State), ∃ t, exec c s = .next t ∧ t.pending = s.pending ∧
    (s.resetHeld = true → c ≠ .powerOnReset → c ≠ .resetRelease → t = s)

/-- R201, R202: power-on reset from any state, and then the release, leave the part at State.reset (log entry 3),
whatever it held before; in between nothing trains. The queue, and the model's own count of entries to UP, are not the
part's. -/
def Obligations.ResetThenReleaseGivesReset : Prop :=
  ∀ s : State, ∃ t, exec .powerOnReset s = .next t ∧ t.resetHeld = true ∧
    (∀ p : Fin 8, t.ports[p].training = false) ∧ (∀ l : Fin 4, t.lanes[l].training = false) ∧
    exec .resetRelease t = .next { State.reset with resumes := s.resumes, pending := s.pending }

/-- The values for power-on reset that R2 and R10 (Path Table), R14, R66, R94 and R140 (Slot Table), R31, R32, R201
(ports), R44, R47 (sources), R53, R54, R58, R59 (timer and pass), R61 (history), R77, R79, R88 (Tap Store), R91
(reports), R93 (engine), R95 (gain), R116, R118, R202 (lanes), R126 (outstanding records), R139 (channels), R164, R165,
R175 (management), R184 (counters), R189 (notices), R191 (mask) and R202 (return) give. -/
def Obligations.ResetValues : Prop :=
  let s := State.reset
  s.running = false ∧ s.period = 40 ∧ s.timer = none ∧ s.seq = 0 ∧ s.pushPos = 0 ∧
  s.pass.stage = .idle ∧ s.pass.seq = 0 ∧ s.pass.walkPos = 0 ∧ s.pass.lastOutcome = .none ∧
  (∀ a, s.taps.read a = ⟨0, true⟩) ∧ (∀ a, s.history.read a = ⟨0, true⟩) ∧
  (∀ p : Fin 8, s.ports[p] = { darkPort 0 with mode := if p = 0 then .dark else .off, training := decide (p = 0) }) ∧
  (∀ p : Fin 8, s.portTable[p] = ⟨false, false, false, 8, 10, 0, 2, 2, 8⟩) ∧
  (∀ q : Fin 48, s.sourceTable[q] = ⟨.unused, 0, 0, 0, 0, false, 8⟩ ∧ s.latches[q] = ⟨0, 255, false⟩) ∧
  (∀ i : Fin 384, s.pathTable[i] = ⟨.unused, 0, 0, 0, 1, 0, false⟩) ∧ s.pathPending = [] ∧
  (∀ t : Fin 96, s.channels[t] = ⟨.off, 0, none⟩ ∧ s.outstanding[t] = none ∧ s.gain[t] = ⟨16, 0, none⟩ ∧
    s.slotTable[t] = ⟨false, false, false, 1, 0, 0, 32767, 16, 16, 16, 20, 0, 32767⟩) ∧
  (∀ l : Fin 4, s.laneTable[l] = ⟨3, 20, 8⟩ ∧ s.lanes[l] = downLane 3) ∧
  (∀ i : CounterId, s.counters.read i = 0) ∧ (∀ k : Fin 13, s.noticeMask[k] = false) ∧
  s.notices = [] ∧ s.reports = [] ∧ s.engine = none ∧ s.mgmtQueue = [] ∧
  (∀ b : BankId, s.bank b = ⟨none, none, none, none, none⟩) ∧ s.parityFlags = ⟨false, false, false⟩ ∧
  s.mgmt = .idle ∧ s.dump.state = .idle ∧ s.ret = ⟨none, none, none⟩

/-! ### Sense ports (chapter 2) -/

/-- R33, R35 to R43: the line receiver's reports of lock, and the port's two timers. Lock in DARK enters QUALIFYING with
the run at 0, the watchdog started with the span as it stands and a first rate gate begun. Loss of lock in QUALIFYING or
PASSING enters DARK, from PASSING with PORT-DOWN. In the other states either report changes nothing. The watchdog's
expiry sets the run to 0, sends a PASSING port to QUALIFYING, and the watchdog starts again with the span as it stands.
At the end of a gate with count F, the measured rate takes F where they differ by more than the hysteresis, and the
stable run becomes 0; else it goes up, to at most 4. A QUALIFYING port is then checked for entry to PASSING, a PASSING
port goes back where F is below the minimum rate. The stable gates are read at the gate's end (log entry 30). -/
def Obligations.PortLockAndTimers : Prop :=
  ∀ (p : Fin 8) (s : State), s.resetHeld = false →
    let dark := setPort p (darkPort s.ports[p].rate) s
    (s.ports[p].mode = .dark → exec (.portLinkLock p) s = .next (returnChoose (setPort p
      { s.ports[p] with mode := .qualifying, training := false, run := 0,
                        watchdog := some s.portTable[p].watchdogSpan, gate := some 0 } s))) ∧
    (s.ports[p].mode ≠ .dark → exec (.portLinkLock p) s = .next (returnChoose s)) ∧
    (s.ports[p].mode = .passing → exec (.portLossOfLock p) s = .next (returnChoose (raise .portDown p.1 dark))) ∧
    (s.ports[p].mode = .qualifying → exec (.portLossOfLock p) s = .next (returnChoose dark)) ∧
    (s.ports[p].mode = .off ∨ s.ports[p].mode = .dark → exec (.portLossOfLock p) s = .next (returnChoose s)) ∧
    (∀ w, s.ports[p].watchdog = some w →
      let u := setPort p
        { s.ports[p] with mode := .qualifying, run := 0, watchdog := some s.portTable[p].watchdogSpan } s
      (s.ports[p].mode = .qualifying → exec (.portWatchdogExpiry p) s = .next (returnChoose u)) ∧
      (s.ports[p].mode = .passing →
        exec (.portWatchdogExpiry p) s = .next (returnChoose (raise .portDown p.1 u)))) ∧
    ∀ f, s.ports[p].gate = some f →
      let e := s.portTable[p]
      let moved : Bool := e.rateHysteresis < ((f : Int) - s.ports[p].rate).natAbs
      let rate := if moved then f else s.ports[p].rate
      let steady := if moved then 0 else min 4 (s.ports[p].stableRun + 1)
      let q : Port := { s.ports[p] with
        rate := rate, stableRun := steady, stable := decide (e.stableGates ≤ steady), gate := some 0 }
      (s.ports[p].mode = .qualifying → exec (.portRateGateEnd p) s = .next (returnChoose
        (if e.passThreshold ≤ s.ports[p].run ∧ e.stableGates ≤ steady ∧ e.minRate ≤ rate then
          raise .portUp p.1 (setPort p { q with mode := .passing } s)
        else setPort p q s))) ∧
      (s.ports[p].mode = .passing → exec (.portRateGateEnd p) s = .next (returnChoose
        (if f < e.minRate then raise .portDown p.1 (setPort p { q with mode := .qualifying, run := 0 } s)
        else setPort p q s)))

/-- R25 to R27, R35, R36, R38: in QUALIFYING and PASSING a start mark opens a frame and a word joins the frame being
collected. A symbol error marks that frame and counts a link error; so does a misplaced end mark, which marks nothing. A
misplaced start mark ends the frame being collected, counted and taking its effect by its class, then counts a link
error, then opens a frame (in this order by log entry 6). A word with no frame being collected changes nothing (log
entry 23). At the error threshold the port enters DARK. In OFF and DARK none of the four changes anything. -/
def Obligations.PortMarksAndErrors : Prop :=
  ∀ (p : Fin 8) (w : Word) (s : State), s.resetHeld = false →
    let q := s.ports[p]
    let dark := setPort p (darkPort q.rate) s
    let down := if q.mode = .passing then raise .portDown p.1 dark else dark
    (q.mode = .off ∨ q.mode = .dark →
      exec (.portSymbolError p) s = .next (returnChoose s) ∧ exec (.portStartMark p) s = .next (returnChoose s) ∧
      exec (.portWordReceived p w) s = .next (returnChoose s) ∧ exec (.portEndMark p) s = .next (returnChoose s)) ∧
    (q.mode = .qualifying ∨ q.mode = .passing →
      (q.rx = none →
        exec (.portStartMark p) s = .next (returnChoose (setPort p { q with rx := some ⟨[], false⟩ } s)) ∧
        exec (.portWordReceived p w) s = .next (returnChoose s)) ∧
      (∀ f, q.rx = some f → exec (.portWordReceived p w) s =
        .next (returnChoose (setPort p { q with rx := some ⟨f.words ++ [w], f.marked⟩ } s))) ∧
      (s.portTable[p].errorThreshold ≤ q.linkErrors + 1 → exec (.portSymbolError p) s = .next (returnChoose down) ∧
        (q.rx = none → exec (.portEndMark p) s = .next (returnChoose down))) ∧
      (q.linkErrors + 1 < s.portTable[p].errorThreshold →
        exec (.portSymbolError p) s = .next (returnChoose (setPort p
          { q with linkErrors := q.linkErrors + 1, rx := q.rx.map (fun f => ⟨f.words, true⟩) } s)) ∧
        (q.rx = none →
          exec (.portEndMark p) s = .next (returnChoose (setPort p { q with linkErrors := q.linkErrors + 1 } s)))) ∧
      ∀ f cls ctr, q.rx = some f → portClass p f true = cls →
        (cls, ctr) ∈ [(FrameClass.short, PortCtr.short), (.babble, .babble), (.format, .format)] →
        let counted := incr (.port p ctr) (incr (.port p .received) s)
        let leaves := decide (q.mode = .passing ∧ s.portTable[p].strict = true ∧ cls ≠ .format)
        (s.portTable[p].errorThreshold ≤ q.linkErrors + 1 → exec (.portStartMark p) s = .next (returnChoose
          (setPort p (darkPort q.rate) (if q.mode = .passing then raise .portDown p.1 counted else counted)))) ∧
        (q.linkErrors + 1 < s.portTable[p].errorThreshold → exec (.portStartMark p) s = .next (returnChoose
          (setPort p
            { q with
              mode := if leaves then .qualifying else q.mode
              run := if cls ≠ .format ∧ (q.mode = .qualifying ∨ leaves = true) then 0 else q.run
              linkErrors := q.linkErrors + 1, rx := some ⟨[], false⟩ }
            (if leaves then raise .portDown p.1 counted else counted)))))

/-- R27: the six checks. A kind that no sense port takes, an address outside its kind's range, and a management frame at
S1 to S7 are FORMAT, whatever the rest. Of a frame whose header passes: the frame as sent is valid; marked, or with
another CRC, it is DAMAGED; with words more it is BABBLE; with words less, or ended by a start mark, it is SHORT, and so
is a frame with no word. -/
def Obligations.PortFrameChecks : Prop :=
  (∀ (p : Fin 8) (k a n : Nat) (ws : List Word) (m b : Bool), k < 16 → a < 128 → n < 32 →
    (k = 0 ∨ 5 ≤ k) ∨ (k = 1 ∧ 32 ≤ a) ∨ (2 ≤ k ∧ k ≤ 4 ∧ (a ≠ 0 ∨ p ≠ 0)) →
    portClass p ⟨header k a n :: ws, m⟩ b = .format) ∧
  ∀ (p : Fin 8) (k a : Nat) (xs : List Word), (k = 1 ∧ a < 32) ∨ (2 ≤ k ∧ k ≤ 4 ∧ a = 0 ∧ p = 0) → xs.length < 32 →
    let body := header k a xs.length :: xs
    portClass p ⟨withCrc body, false⟩ false = .valid ∧
    portClass p ⟨withCrc body, true⟩ false = .damaged ∧
    (∀ c m, c ≠ crc16 body → portClass p ⟨body ++ [c], m⟩ false = .damaged) ∧
    (∀ ws m b, ws ≠ [] → portClass p ⟨withCrc body ++ ws, m⟩ b = .babble) ∧
    (∀ n m b, n < body.length + 1 → portClass p ⟨(withCrc body).take n, m⟩ b = .short) ∧
    ∀ c m, portClass p ⟨body ++ [c], m⟩ true = .short

/-- R28, R34, R36, R37, R38, R40, R41, R48, R50: the end of a valid SAMPLE frame. The run and the gate count go up, the
link errors become 0, the watchdog starts again. In PASSING the samples are delivered. A QUALIFYING port passes where
the run after the frame, the stability (log entry 30) and the measured rate all suffice, and then the frame's own
samples are delivered; else it stays and they are not. Delivery latches each sample in the sensor source with its key,
negated with saturation where the source inverts, and changes no other latch. -/
def Obligations.PortTakesSampleFrame : Prop :=
  (∀ (p : Fin 8) (node : Nat) (xs : List Word) (s : State), s.resetHeld = false → node < 32 → xs.length < 32 →
    s.ports[p].rx = some ⟨withCrc (header 1 node xs.length :: xs), false⟩ →
    let counted := incr (.port p .valid) (incr (.port p .received) s)
    let q : Port := { s.ports[p] with
      run := min 15 (s.ports[p].run + 1), linkErrors := 0, rx := none
      watchdog := some s.portTable[p].watchdogSpan
      gate := s.ports[p].gate.map (fun f => min 4095 (f + 1)) }
    (s.ports[p].mode = .passing →
      exec (.portEndMark p) s = .next (returnChoose (deliverSamples p node xs (setPort p q counted)))) ∧
    (s.ports[p].mode = .qualifying → exec (.portEndMark p) s = .next (returnChoose
      (if s.portTable[p].passThreshold ≤ min 15 (s.ports[p].run + 1) ∧ s.ports[p].stable = true ∧
          s.portTable[p].minRate ≤ s.ports[p].rate then
        deliverSamples p node xs (raise .portUp p.1 (setPort p { q with mode := .passing } counted))
      else setPort p q counted)))) ∧
  ∀ (p : Fin 8) (node : Nat) (xs : List Word) (s : State),
    let t := deliverSamples p node xs s
    t = { s with latches := t.latches } ∧ ∀ n : Fin 48, t.latches[n] =
      let e := s.sourceTable[n]
      if e.kind = .sensor ∧ e.port = p ∧ e.node.1 = node then
        match xs[e.channel.1]? with
        | some v => ⟨if e.invert then BitVec.ofInt 16 (min 32767 (-v.toInt)) else v, 0, true⟩
        | none => s.latches[n]
      else s.latches[n]

/-- R28, R34, R164: a valid management frame at S0 resets the link errors and restarts the watchdog, leaves run and
gate, and joins the input queue; at a queue of 4 it is dropped, counted, and MGMT-DROP raised. -/
def Obligations.PortHandsOverManagement : Prop :=
  ∀ (p : Fin 8) (k : Nat) (xs : List Word) (s : State), p = 0 → s.resetHeld = false →
    s.ports[p].mode = .qualifying ∨ s.ports[p].mode = .passing → 2 ≤ k → k ≤ 4 → xs.length < 32 →
    s.ports[p].rx = some ⟨withCrc (header k 0 xs.length :: xs), false⟩ →
    let u := setPort p
      { s.ports[p] with linkErrors := 0, rx := none, watchdog := some s.portTable[p].watchdogSpan }
      (incr (.port p .valid) (incr (.port p .received) s))
    (s.mgmtQueue.length < 4 → exec (.portEndMark p) s =
      .next (returnChoose { u with mgmtQueue := s.mgmtQueue ++ [⟨header k 0 xs.length, xs⟩] })) ∧
    (4 ≤ s.mgmtQueue.length → exec (.portEndMark p) s =
      .next (returnChoose (raise .mgmtDrop 0 (incr (.global .mgmtDrops) u))))

/-- R27 to R30, R35, R36: the end of a frame that fails a check (PortFrameChecks says of which class it is). It is
counted received and with its class. A FORMAT frame has no effect on the port state. DAMAGED, SHORT and BABBLE set a
QUALIFYING port's run to 0; a PASSING port that is strict goes back to QUALIFYING, another keeps its run. Only a DAMAGED
SAMPLE frame is delivered, where the port is PASSING still and accepts damaged frames; a management frame never is. -/
def Obligations.PortFailingFrame : Prop :=
  ∀ (p : Fin 8) (f : RxFrame) (cls : FrameClass) (ctr : PortCtr) (s : State), s.resetHeld = false →
    s.ports[p].rx = some f → portClass p f false = cls →
    (cls, ctr) ∈ [(FrameClass.damaged, PortCtr.damaged), (.short, .short), (.babble, .babble), (.format, .format)] →
    let counted := incr (.port p ctr) (incr (.port p .received) s)
    let q : Port := { s.ports[p] with rx := none }
    let e := s.portTable[p]
    (s.ports[p].mode = .qualifying → exec (.portEndMark p) s =
      .next (returnChoose (setPort p (if cls = .format then q else { q with run := 0 }) counted))) ∧
    (s.ports[p].mode = .passing → e.strict = true → cls ≠ .format → exec (.portEndMark p) s =
      .next (returnChoose (raise .portDown p.1 (setPort p { q with run := 0, mode := .qualifying } counted)))) ∧
    (s.ports[p].mode = .passing → e.strict = false ∨ cls = .format →
      cls ≠ .damaged ∨ e.acceptDamaged = false ∨ (∀ h, f.words.head? = some h → headerKind h ≠ 1) →
      exec (.portEndMark p) s = .next (returnChoose (setPort p q counted))) ∧
    (s.ports[p].mode = .passing → e.strict = false → e.acceptDamaged = true → cls = .damaged →
      ∀ node xs c, node < 32 → xs.length < 32 → f.words = header 1 node xs.length :: xs ++ [c] →
      exec (.portEndMark p) s = .next (returnChoose (deliverSamples p node xs (setPort p q counted))))

/-! ### The Period Timer and the pass (chapters 1 and 3) -/

/-- R57, R58, R60, R11, R73, R159: an expiry sets the next one, moves the sequence on and marks every waiting HALT as
aged. With no pass in flight it begins the pass, whose apply stage makes every pending path update current. A pass in
its push, or in its walk before the end of it, is to end as an overrun after its stage or slot, and the new pass waits
for that (log entry 9); a pass that has walked all its slots ends at once, counted and raised. While STOPPED no expiry
comes, and the command changes nothing (log entry 2). -/
def Obligations.PeriodExpiryBeginsOrCutsPass : Prop :=
  ∀ s : State, s.resetHeld = false →
    let aged : State := { s with
      timer := some s.period, seq := s.seq + 1
      lanes := s.lanes.map (fun k => { k with untimed := k.untimed.map (fun e => ⟨e.slot, e.seq, true⟩) }) }
    let begun (o : PassOutcome) : Pass := ⟨.push, s.seq + 1, 0, o, none, 0, 0, none⟩
    (s.running = false → exec .periodExpiry s = .next (returnChoose s)) ∧
    (s.running = true →
      (s.pass.stage = .idle → (∀ f, s.mgmt ≠ .executing f .restarting) → exec .periodExpiry s = .next (returnChoose
        { aged with pathTable := projected s, pathPending := [], pass := begun s.pass.lastOutcome })) ∧
      (s.pass.ending ≠ some .restart → s.pass.stage = .push ∨ (s.pass.stage = .walk ∧ s.pass.walkPos < 96) →
        exec .periodExpiry s = .next (returnChoose
          { aged with pass := { s.pass with ending := some .overrun, waiting := s.pass.waiting + 1 } })) ∧
      (s.pass.stage = .walk → s.pass.walkPos = 96 → s.pass.waiting = 0 →
        (∀ f, s.mgmt ≠ .executing f .restarting) → exec .periodExpiry s = .next (returnChoose
          { raise .passOverrun 0 (incr (.global .passOverrun) aged) with
            pathTable := projected s, pathPending := [], pass := begun .overrun })))

/-- R51, R57, R62, R71, R73, R76: the push stage advances the push position and writes, for every source, its latch
value at it, or 0 where the source is unused or older than its hold limit; every other position is as before; each latch
ages by one and is no longer fresh. Then the walk begins; a pass that an expiry has cut ends as an overrun instead, and
the pass that waits begins (log entry 9), also where STOP came in between (log entry 32); where RESTART is in execution,
RESTART then ends that one after its push (log entry 20). A pass that RESTART ends is ended, and the History Store
cleared. -/
def Obligations.PassPushWritesHistory : Prop :=
  ∀ s : State, s.resetHeld = false → s.pass.stage = .push → s.history.wf = true → EndingHolds s →
    ∃ (m : Store) (latches : Vector Latch 48),
      (let pushed : State := { s with
        pushPos := (s.pushPos + 1) % 48, history := m, latches := latches
        pass := { s.pass with elapsedNs := s.pass.elapsedNs + 200 } }
      exec .passPush s = .next (returnChoose (match s.pass.ending with
        | none => { pushed with pass := { pushed.pass with stage := .walk, walkPos := 0 } }
        | some .overrun => overrunInto pushed
        | some .restart => restartedAt s.pass.walkPos pushed))) ∧
      (∀ q : Fin 48, m.read (q.1 * 48 + (s.pushPos + 1) % 48) =
        ⟨if s.sourceTable[q].kind ≠ .unused ∧ s.latches[q].age ≤ s.sourceTable[q].holdLimit then s.latches[q].value
          else 0, true⟩) ∧
      (∀ a, (∀ q : Fin 48, a ≠ q.1 * 48 + (s.pushPos + 1) % 48) → m.read a = s.history.read a) ∧
      ∀ q : Fin 48, latches[q] = ⟨s.latches[q].value, min 255 (s.latches[q].age + 1), false⟩

/-- R18, R65, R67 to R69, R71, R73, R76, R145: the walk passes over a slot that is not selected. A selected slot whose
channel it reads as PROBE is to be probed, and one in RUN whose path set is empty to be computed with a sum of 0: this
step reads the channel and hands nothing over, so that a transition may come before the hand-over. The next WALK_SLOT
hands the PROBE entry, with the pass's sequence, to the lane, which compares it with the channel as it then stands (two
commands by log entry 7). The slot finished, the walk goes on, or a pass that is to end ends: of one cut by an expiry,
the pass that waits begins (log entry 9), also where STOP came in between (log entry 32), and a RESTART in execution
ends that one after its push (log entry 20). -/
def Obligations.WalkServesWithoutPaths : Prop :=
  ∀ (slot : Fin 96) (s : State), s.resetHeld = false → s.pass.stage = .walk → s.pass.walkPos = slot.1 →
    let e := s.slotTable[slot]
    let reached (w : SlotWork) : State := { s with
      pass := { s.pass with comp := some w, elapsedNs := s.pass.elapsedNs + 20 } }
    (s.pass.comp = none →
      (e.enabled = false ∨ (s.channels[slot].state ≠ .run ∧ s.channels[slot].state ≠ .probe) ∨
          s.pass.seq.toNat % e.divisor ≠ e.phase →
        EndingHolds s → exec .walkSlot s = .next (returnChoose (slotFinished s))) ∧
      (e.enabled = true → s.pass.seq.toNat % e.divisor = e.phase →
        (s.channels[slot].state = .probe → exec .walkSlot s = .next (returnChoose (reached (.probe slot)))) ∧
        (s.channels[slot].state = .run →
          (∀ i : Fin 384, s.pathTable[i].state = .enabled → s.pathTable[i].slot ≠ slot) →
          exec .walkSlot s = .next (returnChoose (reached (.compute ⟨slot, e.shift, e.limit, 0, []⟩)))))) ∧
    (s.pass.comp = some (.probe slot) → EndingHolds s → exec .walkSlot s = .next (returnChoose (slotFinished
      { handOver ⟨slot, s.pass.seq, .probe⟩ s with pass := { s.pass with comp := none } })))

/-- R14 to R17, R63, R71, R78, R85, R87: the computation of a selected slot in RUN begins. Shift, limit and path set are
read; each path holds the values of its source pushed d, d + 1, ..., d + L − 1 pushes back, a failing one as 0, or
nothing where the source is unused; the failing ones are counted, flagged and raised for bank H; and the first path's
coefficients are requested of their bank (log entries 7 and 12). The paths stand in ascending path number (log entry
31). -/
def Obligations.WalkBeginsComputation : Prop :=
  ∀ (slot : Fin 96) (e : PathEntry) (rest : List PathEntry) (s : State), s.resetHeld = false → s.pass.stage = .walk →
    s.pass.walkPos = slot.1 → s.pass.comp = none → s.slotTable[slot].enabled = true →
    s.channels[slot].state = .run → s.pass.seq.toNat % s.slotTable[slot].divisor = s.slotTable[slot].phase →
    s.pathTable.toList.filter (fun x => x.state == .enabled && x.slot == slot) = e :: rest →
    let used (x : PathEntry) : Bool := decide (s.sourceTable[x.source].kind ≠ .unused)
    let words (x : PathEntry) : List StoredWord := (List.range x.taps).map (fun k =>
      s.history.read (x.source.1 * 48 + (s.pushPos + 48 - (x.delay + k) % 48) % 48))
    let job (x : PathEntry) : PathJob :=
      ⟨x.block, x.taps, if used x then some ((words x).map (fun w => if w.good then w.value else 0)) else none⟩
    exec .walkSlot s = .next (returnChoose
      (request (if e.block.1 % 2 = 0 then .e else .o) (.passRead e.block e.taps)
        { checkParity .h ((e :: rest).flatMap (fun x => if used x then words x else [])) s with pass := { s.pass with
          elapsedNs := s.pass.elapsedNs + 20 + ((e :: rest).map (fun x => 8 + x.taps)).sum
          comp := some (.compute ⟨slot, s.slotTable[slot].shift, s.slotTable[slot].limit, 0,
            (e :: rest).map job⟩) } }))

/-- R19 to R21, R59, R70, R73, R76: with every path read, the slot sum is biased, divided with floor by 2^(15 + s), and
saturated to −Lim to Lim; the CORRECT entry carries whether it was, the clamp counter counts it, and the walk goes on,
or a pass that is to end ends. That a WALK_SLOT after the last read does this is the model's choice (log entry 7). Of a
pass cut by an expiry, the pass that waits begins (log entry 9), also where STOP came in between (log entry 32), and a
RESTART in execution ends that one after its push (log entry 20). After slot 95 the pass completes, in a command of its
own (log entry 7), and hands and raises nothing. -/
def Obligations.WalkAndPassFinish : Prop :=
  ∀ s : State, s.resetHeld = false → s.pass.stage = .walk →
    (∀ c, s.pass.comp = some (.compute c) → c.todo = [] → EndingHolds s →
      let u := (c.acc + 2 ^ (14 + c.shift)) / 2 ^ (15 + c.shift)
      let clamped := decide (u < -(c.limit : Int) ∨ (c.limit : Int) < u)
      let counted := if clamped then incr (.slot c.slot .clamp) s else s
      let value := BitVec.ofInt 16 (max (-(c.limit : Int)) (min c.limit u))
      exec .walkSlot s = .next (returnChoose (slotFinished
        { handOver ⟨c.slot, s.pass.seq, .correct value clamped⟩ counted with pass := { s.pass with comp := none } }))) ∧
    (s.pass.walkPos = 96 → s.pass.comp = none → s.pass.waiting = 0 → (∀ f, s.mgmt ≠ .executing f .restarting) →
      exec .passComplete s = .next (returnChoose
        { s with pass := { s.pass with stage := .idle, lastOutcome := .completed, ending := none } }))

/-- R19: the raw correction is the floor of the biased quotient, a tie rounds up, and it is bounded by 2^(23 − s). -/
def Obligations.RawCorrectionRounds : Prop :=
  (∀ (s : Nat) (a : Int), 2 ^ (15 + s) * rawCorrection s a ≤ a + 2 ^ (14 + s) ∧
    a + 2 ^ (14 + s) < 2 ^ (15 + s) * (rawCorrection s a + 1)) ∧
  (∀ (s : Nat) (k : Int), rawCorrection s (2 ^ (15 + s) * k + 2 ^ (14 + s)) = k + 1) ∧
  rawCorrection 0 16384 = 1 ∧ rawCorrection 0 (-16384) = 0 ∧
  ∀ (s : Nat) (a : Int), s ≤ 15 → -2 ^ 38 ≤ a → a ≤ 2 ^ 38 →
    -2 ^ (23 - s) ≤ rawCorrection s a ∧ rawCorrection s a ≤ 2 ^ (23 - s)

/-! ### The Tap Store (chapter 4) -/

/-- R16, R78 to R80, R82, R84: an idle bank with nothing waiting takes a request at once; otherwise the request waits in
its requester's place. TAP_OPERATION_COMPLETE ends the operation under way: the bank takes the waiting operation of the
highest priority, pass, adapter, dump, management, or becomes idle with none waiting, and the result is then delivered
to its requester (in this order by log entry 11), as the statements of the requesters say; on an idle bank it changes
nothing (log entry 2). A read that is taken holds the words as they stand then: a pass
read taps 0 to L − 1 of its block, a dump read all 32, a part of a TAPS read the taps it addresses; it changes nothing
else. -/
def Obligations.BankArbiterPriority : Prop :=
  ∀ (b : BankId) (op : BankOp) (s : State),
    let k : Bank := { s.bank b with busy := none }
    (s.resetHeld = false →
      (∀ u, (s.bank b).busy = some u →
        exec (.tapOperationComplete b) s = .next (returnChoose (deliverOp b u (takeNext b s)))) ∧
      ((s.bank b).busy = none → exec (.tapOperationComplete b) s = .next (returnChoose s))) ∧
    (s.bank b = ⟨none, none, none, none, none⟩ → request b op s = takeOp b op s) ∧
    ((s.bank b).busy.isSome = true → request b op s = s.setBank b (match op with
      | .passRead _ _ => { s.bank b with waitPass := some op }
      | .adaptUpdate _ _ => { s.bank b with waitAdapt := some op }
      | .dumpRead _ => { s.bank b with waitDump := some op }
      | .mgmtRead _ _ _ | .mgmtWrite _ => { s.bank b with waitMgmt := some op })) ∧
    (k.waitPass = some op → takeNext b s = takeOp b op (s.setBank b { k with waitPass := none })) ∧
    (k.waitPass = none → k.waitAdapt = some op → takeNext b s =
      takeOp b op (s.setBank b { k with waitAdapt := none })) ∧
    (k.waitPass = none → k.waitAdapt = none → k.waitDump = some op →
      takeNext b s = takeOp b op (s.setBank b { k with waitDump := none })) ∧
    (k.waitPass = none → k.waitAdapt = none → k.waitDump = none → k.waitMgmt = some op →
      takeNext b s = takeOp b op (s.setBank b { k with waitMgmt := none })) ∧
    (k = ⟨none, none, none, none, none⟩ → takeNext b s = s.setBank b k) ∧
    ∀ a n, ((∃ blk, op = .passRead blk n ∧ a = blk.1 * 32) ∨ (∃ blk, op = .dumpRead blk ∧ a = blk.1 * 32 ∧ n = 32) ∨
        ∃ second, op = .mgmtRead second a n) →
      takeOp b op s = s.setBank b { s.bank b with
        busy := some ⟨op, (List.range n).map (fun i => s.taps.read (a + i)), 0⟩ }

/-- R85, R88, R89, R187, R190: a read's words with n failing ones among them. The bank's parity counter goes up by n, to
at most 65535, its sticky flag is set where n is not 0, and no other counter or flag changes. The notice list takes n
raises of PARITY with the bank's index; where the m-th of them brings the counter to 65535, COUNTER-FULL is raised just
before it (in this order by log entry 18). Nothing else changes. -/
def Obligations.ParityFailuresCount : Prop :=
  ∀ (bank : ParityBank) (words : List StoredWord) (s : State),
    let t := checkParity bank words s
    let n := words.countP (fun w => !w.good)
    let c : CounterId := match bank with
      | .e => .global .parityE
      | .o => .global .parityO
      | .h => .global .parityH
    let index := match bank with
      | .e => 0
      | .o => 1
      | .h => 2
    let before := (s.counters.read c).toNat
    t = { s with counters := t.counters, parityFlags := t.parityFlags, notices := t.notices } ∧
    (t.counters.read c).toNat = min 65535 (before + n) ∧
    (∀ i, i ≠ c → t.counters.read i = s.counters.read i) ∧
    t.parityFlags = ⟨s.parityFlags.e || decide (bank = .e ∧ n ≠ 0), s.parityFlags.o || decide (bank = .o ∧ n ≠ 0),
      s.parityFlags.h || decide (bank = .h ∧ n ≠ 0)⟩ ∧
    (before + n < 65535 ∨ before = 65535 → t.notices = ((raise .parity index)^[n] s).notices) ∧
    ∀ m, 1 ≤ m → m ≤ n → before + m = 65535 → t.notices =
      ((raise .parity index)^[n + 1 - m] (raise .counterFull 0 ((raise .parity index)^[m - 1] s))).notices

/-- R16, R17, R79, R85, R86: a coefficient read of a slot's computation completes, and its bank takes the next waiting
operation, if any (`takeNext`, which BankArbiterPriority states). The path adds the sum of its products; with a failing
word, or with an unused source, it adds nothing. Each failing word is counted, flagged and raised first. The read of
the computation's next path, if any, is requested. The words are those read when the operation was taken (log entry
11). -/
def Obligations.PassReadContributes : Prop :=
  ∀ (b : BankId) (blk : Fin 512) (n : Nat) (words : List StoredWord) (c : SlotComp) (job : PathJob)
    (rest : List PathJob) (s : State), s.resetHeld = false →
    (s.bank b).busy = some ⟨.passRead blk n, words, 0⟩ → s.pass.comp = some (.compute c) → c.todo = job :: rest →
    let added : Int := match job.history with
      | none => 0
      | some xs =>
          if words.all (·.good) then ((words.zip xs).map (fun w => w.1.value.toInt * w.2.toInt)).sum else 0
    let u : State := { checkParity (if b = .e then .e else .o) words (takeNext b s) with
      pass := { (takeNext b s).pass with comp := some (.compute { c with todo := rest, acc := c.acc + added }) } }
    (rest = [] → exec (.tapOperationComplete b) s = .next (returnChoose u)) ∧
    ∀ next more, rest = next :: more → exec (.tapOperationComplete b) s = .next (returnChoose
      (request (if next.block.1 % 2 = 0 then .e else .o) (.passRead next.block next.taps) u))

/-- R72, R80, R81, R86, R107: an adapter update that a bank takes is whole. Where every word it reads is good, tap k of
the block becomes the saturated sum of tap and delta k, with good parity, the sums that were saturated are counted with
the operation, and the taps written count toward a pass in flight; where one fails, nothing is written. No other tap
changes. The write is made when the operation is taken (log entry 11). -/
def Obligations.AdapterUpdateWhole : Prop :=
  ∀ (b : BankId) (blk : Fin 512) (ds : List Int) (s : State), s.taps.wf = true →
    let t := takeOp b (.adaptUpdate blk ds) s
    let words := (List.range ds.length).map (fun k => s.taps.read (blk.1 * 32 + k))
    let sum (k : Nat) : Int := (s.taps.read (blk.1 * 32 + k)).value.toInt + ds.getD k 0
    let good := ∀ k < ds.length, (s.taps.read (blk.1 * 32 + k)).good = true
    t = { s with taps := t.taps, pass := t.pass, bankE := t.bankE, bankO := t.bankO } ∧
    (∀ x, x ≠ b → t.bank x = s.bank x) ∧
    (good → (∀ k < ds.length,
        t.taps.read (blk.1 * 32 + k) = ⟨BitVec.ofInt 16 (max (-32768) (min 32767 (sum k))), true⟩) ∧
      (∀ a, (a < blk.1 * 32 ∨ blk.1 * 32 + ds.length ≤ a) → t.taps.read a = s.taps.read a) ∧
      (t.bank b).busy = some ⟨.adaptUpdate blk ds, words,
        (List.range ds.length).countP (fun k => decide (sum k < -32768 ∨ 32767 < sum k))⟩ ∧
      t.pass = { s.pass with elapsedNs := s.pass.elapsedNs + if s.pass.stage = .idle then 0 else 4 * ds.length }) ∧
    (¬ good → t = s.setBank b { s.bank b with busy := some ⟨.adaptUpdate blk ds, words, 0⟩ })

/-- R72, R80, R82, R83, R167 to R169: a TAPS write within the table. One that addresses a block of an enabled adaptive
path of the projected table is refused with BUSY and the first addressed offset that lies in such a block. Any other
makes one part for each block it addresses, one or two, each requested of its bank, which takes it now or keeps it
waiting; the Management Unit waits for the parts. With auto-increment tap o + i is to take data word i, without it tap
o takes every data word in turn, and so keeps the last. An idle bank takes its part, and writes, at once (log entry
11): in the case of one block, every other tap is as before. A part that a bank takes is whole: each address takes the
last word the part has for it, with good parity, no other tap changes, and the taps written count toward a pass in
flight. Each completion leaves one part fewer to wait for, and the bank takes the next waiting operation (`takeNext`,
BankArbiterPriority). -/
def Obligations.TapsWriteWritesBlock : Prop :=
  (∀ (f : MgmtFrame) (s : State), Executing .mwriteTaps f s → f.writeFormatOk = true → f.lastOffset < 16384 →
    let guarded (b : Nat) : Prop := ∃ i : Fin 384, (projected s)[i].state = .enabled ∧
      (projected s)[i].adaptive = true ∧ (projected s)[i].block.1 = b
    let first := f.offset / 32
    let last := f.lastOffset / 32
    let part (b : Nat) : BankOp := .mgmtWrite (((List.range f.data.length).map (fun i =>
      (if f.flag11 then f.offset + i else f.offset, f.data.getD i 0))).filter (fun x => x.1 / 32 == b))
    ((∀ b, first ≤ b → b ≤ last → ¬ guarded b) →
      (first = last → exec .mwriteTaps s = .next (returnChoose
        (request (bankOf first) (part first) { s with mgmt := .executing f (.writing 1) }))) ∧
      (first ≠ last → last = first + 1 ∧ exec .mwriteTaps s = .next (returnChoose
        (request (bankOf last) (part last) (request (bankOf first) (part first)
          { s with mgmt := .executing f (.writing 2) })))) ∧
      (first = last → s.taps.wf = true → s.pass.stage = .idle →
        s.bank (bankOf first) = ⟨none, none, none, none, none⟩ →
        ∃ t, exec .mwriteTaps s = .next (returnChoose t) ∧
          t = { s with taps := t.taps, bankE := t.bankE, bankO := t.bankO, mgmt := .executing f (.writing 1) } ∧
          (∀ b, b ≠ bankOf first → t.bank b = s.bank b) ∧
          (f.flag11 = true → (∀ i, (h : i < f.data.length) → t.taps.read (f.offset + i) = ⟨f.data[i], true⟩) ∧
            ∀ a, (a < f.offset ∨ f.offset + f.data.length ≤ a) → t.taps.read a = s.taps.read a) ∧
          (f.flag11 = false → (∀ w, f.data.getLast? = some w → t.taps.read f.offset = ⟨w, true⟩) ∧
            ∀ a, a ≠ f.offset → t.taps.read a = s.taps.read a))) ∧
    ((∃ b, first ≤ b ∧ b ≤ last ∧ guarded b) →
      ∃ off, f.offset ≤ off ∧ off ≤ f.lastOffset ∧ guarded (off / 32) ∧
        (∀ o, f.offset ≤ o → o < off → ¬ guarded (o / 32)) ∧
        exec .mwriteTaps s =
          .next (returnChoose (replied f { statusReply f .busy with offset := some off } s)))) ∧
  (∀ (b : BankId) (writes : List (Nat × Word)) (s : State), s.taps.wf = true →
    let t := takeOp b (.mgmtWrite writes) s
    t = { s with taps := t.taps, pass := t.pass, bankE := t.bankE, bankO := t.bankO } ∧
    t.bank b = { s.bank b with busy := some ⟨.mgmtWrite writes, [], 0⟩ } ∧ (∀ x, x ≠ b → t.bank x = s.bank x) ∧
    t.pass = { s.pass with elapsedNs := s.pass.elapsedNs + if s.pass.stage = .idle then 0 else 4 * writes.length } ∧
    (∀ x a w y, writes = x ++ (a, w) :: y → (∀ z ∈ y, z.1 ≠ a) → t.taps.read a = ⟨w, true⟩) ∧
    ∀ a, (∀ z ∈ writes, z.1 ≠ a) → t.taps.read a = s.taps.read a) ∧
  ∀ (b : BankId) (f : MgmtFrame) (writes : List (Nat × Word)) (n : Nat) (s : State), s.resetHeld = false →
    (s.bank b).busy = some ⟨.mgmtWrite writes, [], 0⟩ → s.mgmt = .executing f (.writing (n + 1)) →
    exec (.tapOperationComplete b) s =
      .next (returnChoose { takeNext b s with mgmt := .executing f (.writing n) })

/-- R82, R85, R86, R170, R171: a TAPS read makes one part for each block it addresses, one or two, each requested of its
bank, which takes it now or keeps it waiting. At the completion of a part the bank takes the next waiting operation
(`takeNext`, BankArbiterPriority), the part's failing words are counted, flagged and raised, and its words as stored
stand in their place of the reply. The taps are read when the bank takes the part (log entry 11). -/
def Obligations.TapsReadReturnsWords : Prop :=
  (∀ (f : MgmtFrame) (s : State), Executing .mreadTaps f s → f.flag11 = false → 1 ≤ f.count → f.count ≤ 28 →
    f.payload.length = 3 → f.offset + f.count ≤ 16384 →
    let first := f.offset / 32
    let here := (first + 1) * 32 - f.offset
    (f.count ≤ here → exec .mreadTaps s = .next (returnChoose (request (bankOf first) (.mgmtRead false f.offset f.count)
      { s with mgmt := .executing f (.reading none (some [])) }))) ∧
    (here < f.count → exec .mreadTaps s = .next (returnChoose
      (request (bankOf (first + 1)) (.mgmtRead true ((first + 1) * 32) (f.count - here))
        (request (bankOf first) (.mgmtRead false f.offset here)
          { s with mgmt := .executing f (.reading none none) }))))) ∧
  ∀ (b : BankId) (f : MgmtFrame) (second : Bool) (start : Nat) (words : List StoredWord)
    (x y : Option (List StoredWord)) (s : State), s.resetHeld = false →
    (s.bank b).busy = some ⟨.mgmtRead second start words.length, words, 0⟩ → s.mgmt = .executing f (.reading x y) →
    exec (.tapOperationComplete b) s = .next (returnChoose
      { checkParity (if b = .e then .e else .o) words (takeNext b s) with
        mgmt := .executing f (if second then .reading x (some words) else .reading (some words) y) })

/-! ### Residual reports and adaptation (chapter 5) -/

/-- R93, R98 to R101, R109, R110: the idle engine takes the oldest report. Adaptation off drops it; a lateness of 32768
or more counts it in sequence, of 9 to 32767 in late; a report not newer than the last adapted one counts in stale. Any
other is accepted: the last adapted sequence is set, adapted counts it, and the engine, with the slot's mu and energy
floor, stands at the lowest path that is enabled, adaptive and names the slot; with no such path the gain step is made
and the engine is idle, in this same step (log entry 14). -/
def Obligations.ReportTakeJudges : Prop :=
  ∀ (r : Report) (rest : List Report) (s : State), s.resetHeld = false → s.engine = none → s.reports = r :: rest →
    let taken : State := { s with reports := rest }
    let late := (s.seq - r.seq).toNat
    (s.slotTable[r.slot].adaptation = false → exec .reportTake s = .next (returnChoose taken)) ∧
    (s.slotTable[r.slot].adaptation = true →
      (32768 ≤ late → exec .reportTake s = .next (returnChoose (incr (.slot r.slot .sequence) taken))) ∧
      (9 ≤ late → late ≤ 32767 → exec .reportTake s = .next (returnChoose (incr (.slot r.slot .late) taken))) ∧
      (late ≤ 8 → ∀ a, s.gain[r.slot].last = some a → ((r.seq - a).toNat = 0 ∨ 32768 ≤ (r.seq - a).toNat) →
        exec .reportTake s = .next (returnChoose (incr (.slot r.slot .stale) taken))) ∧
      (late ≤ 8 → (∀ a, s.gain[r.slot].last = some a → 1 ≤ (r.seq - a).toNat ∧ (r.seq - a).toNat ≤ 32767) →
        ∃ u, exec .reportTake s = .next (returnChoose u) ∧
          WalkGoesOn ⟨r.slot, r.seq, r.residual, s.gain[r.slot].mu, s.slotTable[r.slot].nMin, 0, false, false⟩ 0
            { incr (.slot r.slot .adapted) taken with
              gain := s.gain.set r.slot { s.gain[r.slot] with last := some r.seq } } u))

/-- R23, R63, R64, R85, R87, R101, R103 to R108: the serving engine, no push to come, takes the next path of its walk
from where it stands (log entry 14). Where the oldest value that path needs, x[r − d − (L − 1)], is more than 47 passes
behind, the path is counted in late and the walk goes on. Else the L values x[r − d − k] are read, a failing one
counting, flagged and raised for bank H and taken as 0. With an energy of 0 no delta is formed and the walk goes on;
else one delta per tap is formed and requested of the path's bank. With no path left the walk is over. With a push to
come the update waits and has not begun (log entry 33), and with an update under way no other begins: nothing changes
(log entry 2). -/
def Obligations.PathUpdateFormsDeltas : Prop :=
  ∀ (v : Service) (s : State), s.resetHeld = false → s.engine = some v →
    (v.updating = true ∨ s.pass.stage = .push ∨ s.pass.waiting ≠ 0 →
      exec .adaptPathUpdate s = .next (returnChoose s)) ∧
    (v.updating = false → s.pass.stage ≠ .push → s.pass.waiting = 0 →
      ((∀ k : Fin 384, v.pathPos ≤ k.1 → ¬ Adapts s v.slot k) →
        ∃ u, exec .adaptPathUpdate s = .next (returnChoose u) ∧ WalkGoesOn v v.pathPos s u) ∧
      ∀ j : Fin 384, v.pathPos ≤ j.1 → Adapts s v.slot j →
        (∀ k : Fin 384, v.pathPos ≤ k.1 → k < j → ¬ Adapts s v.slot k) →
        let e := s.pathTable[j]
        let oldest := (s.seq - (v.seq - BitVec.ofNat 16 (e.delay + (e.taps - 1)))).toNat
        (47 < oldest → ∃ u, exec .adaptPathUpdate s = .next (returnChoose u) ∧
          WalkGoesOn v (j.1 + 1) (incr (.slot v.slot .late) s) u) ∧
        (oldest ≤ 47 →
          let late := (s.seq - (v.seq - BitVec.ofNat 16 e.delay)).toNat
          let words := (List.range e.taps).map (fun k =>
            s.history.read (e.source.1 * 48 + (s.pushPos + 48 - (late + k) % 48) % 48))
          let xs := words.map (fun w => if w.good then w.value else 0)
          let energy := (xs.map (fun x => x.toInt.natAbs ^ 2)).sum
          let n := max (Nat.log2 energy + 1) v.nMin
          (energy = 0 → ∃ u, exec .adaptPathUpdate s = .next (returnChoose u) ∧
            WalkGoesOn v (j.1 + 1) (checkParity .h words s) u) ∧
          (energy ≠ 0 → exec .adaptPathUpdate s = .next (returnChoose
            (request (if e.block.1 % 2 = 0 then .e else .o)
              (.adaptUpdate e.block (xs.map (fun x =>
                (v.mu * (v.residual.toInt * x.toInt) + 2 ^ (n - 8)) / 2 ^ (n - 7))))
              { checkParity .h words s with engine := some { v with pathPos := j.1, updating := true } })))))

/-- R105: for a nonzero energy the bit length N is the one number with 2^(N − 1) ≤ E < 2^N, it is 1 to 36 for at most 32
history values, and N' is the larger of N and Nmin, from 8 to 40. -/
def Obligations.NormalizationExponent : Prop :=
  (∀ e n, e ≠ 0 → (bitLength e = n ↔ 1 ≤ n ∧ 2 ^ (n - 1) ≤ e ∧ e < 2 ^ n)) ∧
  (∀ nMin e, e ≠ 0 → normExponent nMin e = max (bitLength e) nMin) ∧
  ∀ (nMin : Nat) (xs : List Word), xs.length ≤ 32 → energy xs ≠ 0 → 8 ≤ nMin → nMin ≤ 40 →
    1 ≤ bitLength (energy xs) ∧ bitLength (energy xs) ≤ 36 ∧
      8 ≤ normExponent nMin (energy xs) ∧ normExponent nMin (energy xs) ≤ 40

/-- R79, R86, R101, R107, R109, R110, R111: a path's update completes, and its bank takes the next waiting operation,
if any (`takeNext`, BankArbiterPriority; in this order by log entry 11). Its failing words are counted, flagged and
raised, and its saturated taps are counted. Then the walk goes on to the next path; after the last one the gain step is
made in this same step, the engine then idle: the model's choice (log entry 14). Where RESTART has abandoned the walk,
the engine is idle with no gain step, whatever paths are left. -/
def Obligations.UpdateCompletionStepsGain : Prop :=
  ∀ (b : BankId) (blk : Fin 512) (ds : List Int) (words : List StoredWord) (n : Nat) (v : Service) (s : State),
    s.resetHeld = false → (s.bank b).busy = some ⟨.adaptUpdate blk ds, words, n⟩ → s.engine = some v →
    let counted := incrTimes (.slot v.slot .saturation) n
      (checkParity (if b = .e then .e else .o) words (takeNext b s))
    (v.abandon = true → exec (.tapOperationComplete b) s = .next (returnChoose { counted with engine := none })) ∧
    (v.abandon = false → ∃ u, exec (.tapOperationComplete b) s = .next (returnChoose u) ∧
      WalkGoesOn v (v.pathPos + 1) counted u)

/-! ### Slot lanes and correction channels (chapters 6 and 7) -/

/-- R118 to R121, R152, R153, R161: what a lane's receiver's reports of lock do. Lock on a DOWN lane: the lane is UP
with its link error count at 0 and LANE-UP raised; every channel of it that is HALTED with cause LANE and set to
auto-resume enters PROBE, with CHANNEL-STATE raised for each, in some order (log entry 5); then the arbiter chooses.
Loss of lock on an UP lane empties it, with LANE-DOWN. The other report changes nothing. -/
def Obligations.LaneLockReports : Prop :=
  ∀ (l : Fin 4) (s : State), s.resetHeld = false →
    (s.lanes[l].up = true → exec (.laneLinkLock l) s = .next (returnChoose s) ∧ ∃ u : State,
      exec (.laneLossOfLock l) s = .next (returnChoose (raise .laneDown l.1 u)) ∧ LaneEmptied l s u) ∧
    (s.lanes[l].up = false → exec (.laneLossOfLock l) s = .next (returnChoose s) ∧
      ∃ (order : List Nat) (u : State),
        exec (.laneLinkLock l) s = .next (returnChoose
          (laneChoose l (raiseEach .channelState order (raise .laneUp l.1 u)))) ∧
        order.Nodup ∧ u = { s with lanes := u.lanes, channels := u.channels, resumes := s.resumes + 1 } ∧
        u.lanes = s.lanes.set l { s.lanes[l] with up := true, training := false, linkErrors := 0 } ∧
        (∀ n ∈ order, n < 96) ∧ ∀ t : Fin 96,
          let resumes := slotLane t = l ∧ s.channels[t].state = .halted ∧ s.channels[t].cause = some .lane ∧
            s.slotTable[t].autoResume = true
          (t.1 ∈ order ↔ resumes) ∧ (resumes → u.channels[t] = ⟨.probe, 0, none⟩) ∧
            (¬ resumes → u.channels[t] = s.channels[t]))

/-- R118 to R120, R127, R128: on an UP lane a start mark opens a frame, a word joins it, and a symbol error marks it and
counts a link error; a misplaced end mark counts one and marks nothing. A misplaced start mark ends the frame being
collected, which is counted by its class, with a link error for a BABBLE frame, then counts a link error, then opens a
frame (in this order by log entry 6). A word with no frame being collected changes nothing (log entry 23). A link error
that reaches the error threshold empties the lane, with LANE-DOWN. On a DOWN lane none of the four changes anything. -/
def Obligations.LaneCollectsFrame : Prop :=
  ∀ (l : Fin 4) (w : Word) (s : State), s.resetHeld = false →
    let k := s.lanes[l]
    let threshold := s.laneTable[l].errorThreshold
    (k.up = false →
      exec (.laneStartMark l) s = .next (returnChoose s) ∧ exec (.laneWordReceived l w) s = .next (returnChoose s) ∧
      exec (.laneSymbolError l) s = .next (returnChoose s) ∧ exec (.laneEndMark l) s = .next (returnChoose s)) ∧
    (k.up = true →
      (k.rx = none → exec (.laneStartMark l) s = .next (returnChoose (setLane l { k with rx := some ⟨[], false⟩ } s)) ∧
        exec (.laneWordReceived l w) s = .next (returnChoose s)) ∧
      (∀ f, k.rx = some f → exec (.laneWordReceived l w) s =
        .next (returnChoose (setLane l { k with rx := some ⟨f.words ++ [w], f.marked⟩ } s))) ∧
      (k.linkErrors + 1 < threshold →
        exec (.laneSymbolError l) s = .next (returnChoose (setLane l
          { k with linkErrors := k.linkErrors + 1, rx := k.rx.map (fun f => ⟨f.words, true⟩) } s)) ∧
        (k.rx = none → exec (.laneEndMark l) s =
          .next (returnChoose (setLane l { k with linkErrors := k.linkErrors + 1 } s)))) ∧
      (threshold ≤ k.linkErrors + 1 → ∃ u : State, LaneEmptied l s u ∧
        exec (.laneSymbolError l) s = .next (returnChoose (raise .laneDown l.1 u)) ∧
        (k.rx = none → exec (.laneEndMark l) s = .next (returnChoose (raise .laneDown l.1 u)))) ∧
      ∀ f cls ctr, k.rx = some f → laneClass l f true = cls →
        (cls, ctr) ∈ [(FrameClass.short, LaneCtr.short), (.babble, .babble), (.format, .format)] →
        let counted := incr (.lane l ctr) s
        let errors := k.linkErrors + if cls = .babble then 2 else 1
        (errors < threshold → exec (.laneStartMark l) s = .next (returnChoose
          (setLane l { k with linkErrors := errors, rx := some ⟨[], false⟩ } counted))) ∧
        (threshold ≤ errors → ∃ u : State, LaneEmptied l counted u ∧
          exec (.laneStartMark l) s = .next (returnChoose (raise .laneDown l.1 u))))

/-- R49, R50, R92, R128 to R130, R133, R134: a valid ANSWER of 2 to 5 payload words, its report and its aggressor sample
present or absent. Where the slot's record has its sequence, the record is removed, matched counts it, the link errors
are 0; then the channel takes the status with the kind of the frame sent, the report joins the report queue, or at a
queue of 16 is dropped, counted, and ADAPT-DROP raised, the aggressor sample is latched in the aggressor source of the
slot and no other, and the arbiter chooses. With no record, or one of another sequence, the answer is discarded whole:
unmatched counts it, the link errors are 0. -/
def Obligations.ValidAnswerMatchesOrIsDiscarded : Prop :=
  (∀ (l : Fin 4) (t : Fin 96) (q : Word) (report : Option (Word × Word)) (sample : Option Word) (st : AnswerStatus)
    (s : State), s.resetHeld = false → s.lanes[l].up = true → slotLane t = l →
    let code : Word := match st with
      | .accept => 1
      | .defer => 2
      | .fault => 3
    let payload := [q, code] ++ (match report with
      | some (r, e) => [r, e]
      | none => []) ++ sample.toList
    s.lanes[l].rx = some ⟨withCrc (header 8 t.1 payload.length :: payload), false⟩ →
    let checked := setLane l { s.lanes[l] with rx := none, linkErrors := 0 } s
    (∀ rec, s.outstanding[t] = some rec → rec.seq = q →
      let told := channelStatus t rec.kind st (incr (.lane l .matched) (setOutstanding t none checked))
      let joined : State := match report with
        | some (r, e) =>
            if s.reports.length < 16 then { told with reports := s.reports ++ [⟨t, r, e⟩] }
            else raise .adaptDrop 0 (incr (.global .reportDrops) told)
        | none => told
      exec (.laneEndMark l) s = .next (returnChoose (laneChoose l (match sample with
        | some a => deliverAggressor t a joined
        | none => joined)))) ∧
    ((∀ rec, s.outstanding[t] = some rec → rec.seq ≠ q) →
      exec (.laneEndMark l) s = .next (returnChoose (incr (.lane l .unmatched) checked)))) ∧
  ∀ (t : Fin 96) (a : Word) (s : State),
    let u := deliverAggressor t a s
    u = { s with latches := u.latches } ∧ ∀ n : Fin 48, u.latches[n] =
      if s.sourceTable[n].kind = .aggressor ∧ s.sourceTable[n].slot = t then
        ⟨if s.sourceTable[n].invert then BitVec.ofInt 16 (min 32767 (-a.toInt)) else a, 0, true⟩
      else s.latches[n]

/-- R119, R120, R128: the frames that a lane discards, by class, and what their end does. FORMAT: a header of another
kind, a slot of another lane, a length other than 2 to 5, or, all else passed, a status code other than 1, 2, 3. BABBLE:
words more. SHORT: words less, or ended by a start mark. DAMAGED: marked, or another CRC. Each is counted and reaches
neither record, channel, report queue nor latch; BABBLE also counts a link error, which at the threshold empties the
lane. -/
def Obligations.LaneDiscardsFailingFrame : Prop :=
  (∀ (l : Fin 4) (k a n : Nat) (ws : List Word) (m b : Bool), k < 16 → a < 128 → n < 32 →
    k ≠ 8 ∨ a < 24 * l.1 ∨ 24 * l.1 + 23 < a ∨ n < 2 ∨ 5 < n → laneClass l ⟨header k a n :: ws, m⟩ b = .format) ∧
  (∀ (l : Fin 4) (t : Fin 96) (xs : List Word), slotLane t = l → 2 ≤ xs.length → xs.length ≤ 5 →
    let body := header 8 t.1 xs.length :: xs
    (∀ ws m b, ws ≠ [] → laneClass l ⟨withCrc body ++ ws, m⟩ b = .babble) ∧
    (∀ n m b, n < body.length + 1 → laneClass l ⟨(withCrc body).take n, m⟩ b = .short) ∧
    (∀ c m, laneClass l ⟨body ++ [c], m⟩ true = .short) ∧
    laneClass l ⟨withCrc body, true⟩ false = .damaged ∧
    (∀ c m, c ≠ crc16 body → laneClass l ⟨body ++ [c], m⟩ false = .damaged) ∧
    laneClass l ⟨withCrc body, false⟩ false =
      if xs[1]? = some 1 ∨ xs[1]? = some 2 ∨ xs[1]? = some 3 then .valid else .format) ∧
  ∀ (l : Fin 4) (f : RxFrame) (cls : FrameClass) (ctr : LaneCtr) (s : State), s.resetHeld = false →
    s.lanes[l].up = true → s.lanes[l].rx = some f → laneClass l f false = cls →
    (cls, ctr) ∈ [(FrameClass.damaged, LaneCtr.damaged), (.short, .short), (.format, .format), (.babble, .babble)] →
    let k : Lane := { s.lanes[l] with rx := none }
    let counted := incr (.lane l ctr) s
    (cls ≠ .babble → exec (.laneEndMark l) s = .next (returnChoose (setLane l k counted))) ∧
    (cls = .babble → k.linkErrors + 1 < s.laneTable[l].errorThreshold → exec (.laneEndMark l) s =
      .next (returnChoose (setLane l { k with linkErrors := k.linkErrors + 1 } counted))) ∧
    (cls = .babble → s.laneTable[l].errorThreshold ≤ k.linkErrors + 1 → ∃ u : State, LaneEmptied l counted u ∧
      exec (.laneEndMark l) s = .next (returnChoose (raise .laneDown l.1 u)))

/-- R145, R146, R147, R149, R150: what a status does to a channel. A flush removes the slot's waiting timed entry and
counts no overrun. -/
def Obligations.ChannelTakesStatus : Prop :=
  ∀ (t : Fin 96) (k : SentKind) (st : AnswerStatus) (s : State),
    (s.channels[t].state = .run →
      channelStatus t k .accept s = setChannel t ⟨.run, 0, none⟩ s ∧
      channelStatus t k .defer s =
        raise .channelState t.1 (withoutTimed t (setChannel t ⟨.probe, 0, none⟩ (incr (.slot t .defer) s)))) ∧
    (s.channels[t].state = .probe →
      channelStatus t k .accept s = withoutTimed t (setChannel t ⟨.run, 0, none⟩ s) ∧
      channelStatus t k .defer s = setChannel t ⟨.probe, 0, none⟩ (incr (.slot t .defer) s)) ∧
    (s.channels[t].state = .run ∨ s.channels[t].state = .probe → channelStatus t k .fault s =
      raise .channelState t.1 (withoutTimed t (setChannel t ⟨.halted, 0, some .drive⟩ (incr (.slot t .fault) s)))) ∧
    (s.channels[t].state = .halting → channelStatus t k st s =
      if k = .halt then setChannel t ⟨.halted, 0, some .command⟩ s else s)

/-- R125, R126, R131, R135, R138, R148, R149, R150: the end of a frame counts as sent and frees the line; its record,
with the answer window as it stands, is in place before the arbiter chooses, unless RESTART came during the
transmission. The expiry of an answer window removes the record. In RUN and PROBE it is a miss, and the third retires
the channel; in HALTING the HALT's own expiry halts it for COMMAND, an earlier frame's does nothing. Then the arbiter
chooses. -/
def Obligations.LaneRecordsComeAndGo : Prop :=
  (∀ (l : Fin 4) (x : LaneTx) (s : State), s.resetHeld = false → s.lanes[l].tx = some x →
    let u := incr (.lane l .sent) (setLane l { s.lanes[l] with tx := none } s)
    exec (.laneTransmitEnd l) s = .next (returnChoose (laneChoose l
      (if x.enters then
        setOutstanding x.frame.slot (some ⟨x.frame.sentKind, x.frame.seq, s.laneTable[l].window⟩) u
      else u)))) ∧
  ∀ (l : Fin 4) (t : Fin 96) (rec : OutRecord) (s : State), s.resetHeld = false → slotLane t = l →
    s.outstanding[t] = some rec →
    let u := setOutstanding t none s
    (s.channels[t].state = .run ∨ s.channels[t].state = .probe → rec.kind ≠ .halt →
      exec (.answerWindowExpiry l t) s = .next (returnChoose (laneChoose l
        (if s.channels[t].miss < 2 then
          setChannel t { s.channels[t] with miss := s.channels[t].miss + 1 } (incr (.slot t .miss) u)
        else raise .channelState t.1 (withoutTimed t (setChannel t ⟨.retired, 0, none⟩ (incr (.slot t .miss) u))))))) ∧
    (s.channels[t].state = .halting →
      exec (.answerWindowExpiry l t) s = .next (returnChoose (laneChoose l
        (if rec.kind = .halt then raise .haltUnanswered t.1 (incr (.slot t .haltTimeout)
          (setChannel t ⟨.halted, 0, some .command⟩ u))
        else u))))

/-- R160, R125: the arbiter of an UP lane with a free line chooses the oldest eligible aged HALT, or else the oldest
eligible timed entry, or else the oldest eligible HALT; the entry leaves its queue and its frame is on the line. An
entry is eligible while its slot has no outstanding record; one passed over keeps its place. On a DOWN lane, or during a
transmission, the arbiter chooses nothing. -/
def Obligations.LaneArbiterPrefers : Prop :=
  ∀ (l : Fin 4) (s : State),
    let free (t : Fin 96) : Prop := s.outstanding[t] = none
    let q := s.lanes[l]
    (q.up = false ∨ q.tx.isSome = true → laneChoose l s = s) ∧
    (q.up = true → q.tx = none →
      (∀ a e b, q.untimed = a ++ e :: b → e.aged = true → free e.slot → (∀ x ∈ a, ¬ (x.aged = true ∧ free x.slot)) →
        laneChoose l s = setLane l { q with untimed := a ++ b, tx := some ⟨.halt e.slot e.seq, true⟩ } s) ∧
      ((∀ x ∈ q.untimed, ¬ (x.aged = true ∧ free x.slot)) →
        (∀ a e b, q.timed = a ++ e :: b → free e.slot → (∀ x ∈ a, ¬ free x.slot) →
          laneChoose l s = setLane l { q with timed := a ++ b, tx := some ⟨e.frame, true⟩ } s) ∧
        ((∀ x ∈ q.timed, ¬ free x.slot) →
          (∀ a e b, q.untimed = a ++ e :: b → free e.slot → (∀ x ∈ a, ¬ free x.slot) →
            laneChoose l s = setLane l { q with untimed := a ++ b, tx := some ⟨.halt e.slot e.seq, true⟩ } s) ∧
          ((∀ x ∈ q.untimed, ¬ free x.slot) → laneChoose l s = s))))

/-- R69, R156: an entry handed to a lane joins the tail of its timed queue where its kind is its channel's, CORRECT for
RUN and PROBE for PROBE, and is discarded otherwise; an older entry of its slot is replaced, counted and raised. Then
the arbiter chooses. -/
def Obligations.HandOverJoinsQueue : Prop :=
  ∀ (t : Fin 96) (q v : Word) (c : Bool) (s : State),
    let l := slotLane t
    let joined (e : TimedEntry) : State :=
      let u := setLane l { s.lanes[l] with timed := s.lanes[l].timed.filter (fun x => decide (x.slot ≠ t)) ++ [e] } s
      laneChoose l (if s.lanes[l].timed.any (fun x => decide (x.slot = t)) then
        raise .slotOverrun t.1 (incr (.slot t .overrun) u) else u)
    (s.channels[t].state = .run → handOver ⟨t, q, .correct v c⟩ s = joined ⟨t, q, .correct v c⟩ ∧
      handOver ⟨t, q, .probe⟩ s = s) ∧
    (s.channels[t].state = .probe → handOver ⟨t, q, .probe⟩ s = joined ⟨t, q, .probe⟩ ∧
      handOver ⟨t, q, .correct v c⟩ s = s) ∧
    (s.channels[t].state ≠ .run → s.channels[t].state ≠ .probe →
      handOver ⟨t, q, .correct v c⟩ s = s ∧ handOver ⟨t, q, .probe⟩ s = s)

/-! ### In-band management and the layouts (chapters 8 and 10) -/

/-- R165, R173, R196: the idle Management Unit takes the oldest frame and executes it, an MWRITE, an MREAD or an MACT as
its table code or action code names the row. An MACT whose length or action code R196 refuses has FORMAT as its outcome
at once (log entry 16). An action whose frame lacks an argument that it uses is refused with FORMAT, one whose argument
is out of the action's range with RANGE; nothing else changes. -/
def Obligations.ManagementTakesByCode : Prop :=
  (∀ (f : MgmtFrame) (rest : List MgmtFrame) (s : State), s.resetHeld = false → s.mgmt = .idle →
    s.mgmtQueue = f :: rest →
    ((rowOf f).isSome = true → exec .mgmtFrameTake s =
      .next (returnChoose { s with mgmtQueue := rest, mgmt := .executing f .taken })) ∧
    (headerKind f.header = 4 →
      (f.payload.length < 2 ∨ 4 < f.payload.length ∨ (f.word 1).toNat = 0 ∨ 11 < (f.word 1).toNat) →
      exec .mgmtFrameTake s =
        .next (returnChoose (replied f (statusReply f .format) { s with mgmtQueue := rest })))) ∧
  (∀ f : MgmtFrame,
    let code := (f.word 1).toNat / 4096
    (headerKind f.header = 2 → rowOf f = some (
      if f.payload.length < 3 then .mwrite else if code = 1 then .mwritePort else if code = 2 then .mwriteSource
      else if code = 3 then .mwriteSlot else if code = 4 then .mwritePath else if code = 5 then .mwriteTaps
      else .mwrite)) ∧
    (headerKind f.header = 3 → rowOf f = some (
      if f.payload.length = 3 ∧ code = 5 then .mreadTaps
      else if f.payload.length = 3 ∧ code = 6 ∧ (f.word 1).getLsbD 11 = true then .mreadCountersClear else .mread)) ∧
    (headerKind f.header = 4 → 2 ≤ f.payload.length → f.payload.length ≤ 4 → ∀ n row,
      (n, row) ∈ [(1, MgmtRow.run), (2, .stop), (3, .restart), (4, .startSlot), (5, .haltSlot), (6, .releaseSlot),
        (7, .gainRestart), (8, .clearParity), (9, .dump), (10, .laneReset), (11, .portReset)] →
      (f.word 1).toNat = n → rowOf f = some row)) ∧
  (∀ (c : Instr) (row : MgmtRow) (n : Nat) (f : MgmtFrame) (s : State),
    (c, row, n) ∈ [(.startSlot, MgmtRow.startSlot, 96), (.haltSlot, .haltSlot, 96), (.releaseSlot, .releaseSlot, 96),
      (.gainRestart, .gainRestart, 96), (.laneReset, .laneReset, 4), (.portReset, .portReset, 8)] →
    Executing row f s →
    (f.payload[2]? = none → exec c s = .next (returnChoose (replied f (statusReply f .format) s))) ∧
    (∀ a, f.payload[2]? = some a → n ≤ a.toNat →
      exec c s = .next (returnChoose (replied f (statusReply f .range) s)))) ∧
  ∀ (f : MgmtFrame) (s : State),
    (Executing .run f s → f.payload[2]? = none →
      exec .run s = .next (returnChoose (replied f (statusReply f .format) s))) ∧
    (Executing .dump f s →
      (f.payload[2]? = none ∨ f.payload[3]? = none →
        exec .dump s = .next (returnChoose (replied f (statusReply f .format) s))) ∧
      (∀ a b, f.payload[2]? = some a → f.payload[3]? = some b → 512 ≤ a.toNat ∨ 512 ≤ b.toNat →
        exec .dump s = .next (returnChoose (replied f (statusReply f .range) s))))

/-- R82, R86, R165, R174, R176, R182, R198: EXECUTION_COMPLETE. A frame whose reply is known, a TAPS write with no part
left, a TAPS read with both its parts read, and a RESTART with no pass in flight, no abandoned walk and no dump abort
under way, are complete. Their REPLY takes an empty reply place and the unit is idle, the first block of an accepted
DUMP being requested; with the place full the unit holds the REPLY. A TAPS read carries its words as stored and the
position of the first failing one. That this is a command of its own is the model's choice (log entry 34). Where no
frame is in execution, or its execution is not complete, the event cannot come, and nothing changes (log entry 2). -/
def Obligations.ExecutionCompletes : Prop :=
  ∀ s : State, s.resetHeld = false →
    (∀ f r, ReplyReady f r s ∨ (s.mgmt = .executing f .restarting ∧ RestartSettled s ∧ r = statusReply f .done) →
      let placed : State := { s with mgmt := .idle, ret := { s.ret with replyPlace := some r } }
      (s.ret.replyPlace = none → exec .executionComplete s = .next (returnChoose
        (if r.startsDump then request (if s.dump.next.1 % 2 = 0 then .e else .o) (.dumpRead s.dump.next) placed
         else placed))) ∧
      (s.ret.replyPlace.isSome = true → exec .executionComplete s =
        .next (returnChoose { s with mgmt := .holding r }))) ∧
    (s.mgmt = .idle ∨ (∃ r, s.mgmt = .holding r) ∨ (∃ f, s.mgmt = .executing f .taken ∨
        (∃ ws, s.mgmt = .executing f (.collecting ws)) ∨ (∃ n, s.mgmt = .executing f (.writing (n + 1))) ∨
        (∃ x, s.mgmt = .executing f (.reading none x) ∨ s.mgmt = .executing f (.reading x none)) ∨
        (s.mgmt = .executing f .restarting ∧ ¬ RestartSettled s)) →
      exec .executionComplete s = .next (returnChoose s))

/-- R165 to R168, R170, R196: an MWRITE or MREAD that is refused changes nothing but the Management Unit, whichever its
table and the failing check. One whose fixed words are missing, whose count is out of range, whose clear flag stands on
a table other than COUNTERS, or whose table code names no table, is refused with FORMAT and no offset; one that
addresses offsets beyond its table with RANGE and the first of them, also where a field of an entry within the table is
out of its range (log entry 17). -/
def Obligations.RefusedFrameChangesNothing : Prop :=
  (∀ (c : Instr) (row : MgmtRow) (f : MgmtFrame) (r : Reply) (s t : State),
    (c, row) ∈ [(.mwritePort, MgmtRow.mwritePort), (.mwriteSource, .mwriteSource), (.mwriteSlot, .mwriteSlot),
      (.mwritePath, .mwritePath), (.mwriteTaps, .mwriteTaps), (.mwrite, .mwrite), (.mread, .mread),
      (.mreadTaps, .mreadTaps), (.mreadCountersClear, .mreadCountersClear)] →
    Executing row f s → exec c s = .next t →
    t.mgmt = .executing f (.finished r) ∨ (t.mgmt = .idle ∧ t.ret.line = some (.reply r)) → r.status ≠ .done →
    t = returnChoose (replied f r s)) ∧
  (∀ (c : Instr) (row : MgmtRow) (code size : Nat) (f : MgmtFrame) (s : State),
    (c, row, code, size) ∈ [(.mwritePort, MgmtRow.mwritePort, 1, 48), (.mwriteSource, .mwriteSource, 2, 96),
      (.mwriteSlot, .mwriteSlot, 3, 576), (.mwritePath, .mwritePath, 4, 1152), (.mwriteTaps, .mwriteTaps, 5, 16384),
      (.mwrite, .mwrite, 8, 13)] → Executing row f s →
    (f.payload.length < 4 ∨ 31 < f.payload.length →
      exec c s = .next (returnChoose (replied f (statusReply f .format) s))) ∧
    (4 ≤ f.payload.length → f.payload.length ≤ 31 → f.table = code →
      size ≤ (if f.flag11 then f.offset + (f.payload.length - 4) else f.offset) →
      exec c s = .next (returnChoose (replied f { statusReply f .range with offset := some (max f.offset size) } s)))) ∧
  (∀ (f : MgmtFrame) (s : State), Executing .mwrite f s → f.table = 0 ∨ 9 ≤ f.table →
    exec .mwrite s = .next (returnChoose (replied f (statusReply f .format) s))) ∧
  ∀ (c : Instr) (row : MgmtRow) (code size : Nat) (f : MgmtFrame) (s : State),
    (c, row, code, size) ∈ [(.mread, MgmtRow.mread, 1, 48), (.mread, .mread, 2, 96), (.mread, .mread, 3, 576),
      (.mread, .mread, 4, 1152), (.mread, .mread, 6, 1308), (.mread, .mread, 7, 1413), (.mread, .mread, 8, 13),
      (.mreadTaps, .mreadTaps, 5, 16384), (.mreadCountersClear, .mreadCountersClear, 6, 1308)] → Executing row f s →
    (f.payload.length ≠ 3 ∨ f.count = 0 ∨ 28 < f.count ∨ f.table = 0 ∨ 9 ≤ f.table ∨ (f.flag11 = true ∧ f.table ≠ 6) →
      exec c s = .next (returnChoose (replied f (statusReply f .format) s))) ∧
    (f.payload.length = 3 → 1 ≤ f.count → f.count ≤ 28 → f.table = code → (f.flag11 = false ∨ code = 6) →
      size < f.offset + f.count →
      exec c s = .next (returnChoose (replied f { statusReply f .range with offset := some (max f.offset size) } s)))

/-- R7, R167, R199: the word at position j of entry e is the one the frame supplies for it, data word o' − o with
auto-increment, the last data word at the one offset without, or else the word it had. For each of the five entry
layouts: the written words hold an entry where each field stands at its bits and is in its range, and otherwise none,
the bits of no field not mattering; the words of an entry in its ranges read back as that entry, with 0 in the bits of
no field. -/
def Obligations.EntryAssemblyAndLayouts : Prop :=
  (∀ (f : MgmtFrame) (width e j : Nat) (base : List Word) (old : Word), base[j]? = some old →
    (f.flag11 = true → ∀ i w, f.offset + i = e * width + j → f.data[i]? = some w →
      (f.assemble width e base)[j]? = some w) ∧
    (f.flag11 = true → (e * width + j < f.offset ∨ f.offset + f.data.length ≤ e * width + j) →
      (f.assemble width e base)[j]? = some old) ∧
    (f.flag11 = false → ∀ w, f.offset = e * width + j → f.data.getLast? = some w →
      (f.assemble width e base)[j]? = some w) ∧
    (f.flag11 = false → f.offset ≠ e * width + j → (f.assemble width e base)[j]? = some old)) ∧
  (let field (w : Word) (hi lo : Nat) : Nat := (w.extractLsb' lo (hi + 1 - lo)).toNat
  (∀ (a b c d : Word) (e : PortEntry), PortEntry.ofWords [a, b, c, d] = some e ↔
    (e.enabled = a.getLsbD 15 ∧ e.acceptDamaged = a.getLsbD 14 ∧ e.strict = a.getLsbD 13 ∧
      e.passThreshold = field a 7 4 ∧ e.errorThreshold = field a 3 0 ∧ e.watchdogSpan = field b 7 0 ∧
      e.minRate = field c 11 0 ∧ e.rateHysteresis = field d 7 4 ∧ e.stableGates = field d 2 0) ∧
    1 ≤ e.passThreshold ∧ 1 ≤ e.errorThreshold ∧ 1 ≤ e.watchdogSpan ∧ 1 ≤ e.stableGates ∧ e.stableGates ≤ 4) ∧
  (∀ (a b c d : Word) (e : LaneEntry), LaneEntry.ofWords [a, b, c, d] = some e ↔
    (e.divisor = field a 3 0 ∧ e.window = field b 5 0 ∧ e.errorThreshold = field c 3 0) ∧
    2 ≤ e.window ∧ e.window ≤ 60 ∧ 1 ≤ e.errorThreshold) ∧
  (∀ (a b : Word) (e : SourceEntry), SourceEntry.ofWords [a, b] = some e ↔
    field a 15 14 = (match e.kind with
      | .unused => 0
      | .sensor => 1
      | .aggressor => 2) ∧
    e.invert = a.getLsbD 13 ∧ e.port.1 = field a 12 10 ∧ e.node.1 = field a 9 5 ∧ e.channel.1 = field a 4 0 ∧
    e.slot.1 = field b 14 8 ∧ e.holdLimit = field b 7 0) ∧
  (∀ (a b c d x y : Word) (e : SlotEntry), SlotEntry.ofWords [a, b, c, d, x, y] = some e ↔
    (e.enabled = a.getLsbD 15 ∧ e.autoResume = a.getLsbD 14 ∧ e.adaptation = a.getLsbD 13 ∧ e.divisor = field a 10 8 ∧
      e.phase = field a 5 4 ∧ e.shift = field a 3 0 ∧ e.limit = field b 14 0 ∧ e.muFloor = field c 15 8 ∧
      e.muCeiling = field c 7 0 ∧ e.muStart = field d 15 8 ∧ e.nMin = field d 5 0 ∧ e.quiet = field x 14 0 ∧
      e.burst = field y 14 0) ∧
    (e.divisor = 1 ∨ e.divisor = 2 ∨ e.divisor = 4) ∧ e.phase < e.divisor ∧ 1 ≤ e.limit ∧ 1 ≤ e.muFloor ∧
    e.muFloor ≤ e.muStart ∧ e.muStart ≤ e.muCeiling ∧ 8 ≤ e.nMin ∧ e.nMin ≤ 40) ∧
  (∀ (a b c : Word) (e : PathEntry), PathEntry.ofWords [a, b, c] = some e ↔
    field a 15 14 = (match e.state with
      | .unused => 0
      | .enabled => 1
      | .disabled => 2) ∧
    e.adaptive = a.getLsbD 13 ∧ e.delay = field a 2 0 ∧ e.slot.1 = field b 14 8 ∧ e.source.1 = field b 5 0 ∧
    e.taps = field c 15 10 ∧ e.block.1 = field c 8 0 ∧ 1 ≤ e.taps ∧ e.taps ≤ 32)) ∧
  (∀ e : PortEntry, e.inRange = true → PortEntry.ofWords e.toWords = some e ∧
    ∃ a b c d, e.toWords = [a, b, c, d] ∧ a &&& 0x1F00 = 0 ∧ b &&& 0xFF00 = 0 ∧ c &&& 0xF000 = 0 ∧ d &&& 0xFF08 = 0) ∧
  (∀ e : LaneEntry, e.inRange = true → LaneEntry.ofWords e.toWords = some e ∧
    ∃ a b c, e.toWords = [a, b, c, 0] ∧ a &&& 0xFFF0 = 0 ∧ b &&& 0xFFC0 = 0 ∧ c &&& 0xFFF0 = 0) ∧
  (∀ e : SourceEntry, e.inRange = true → SourceEntry.ofWords e.toWords = some e ∧
    ∃ a b, e.toWords = [a, b] ∧ b &&& 0x8000 = 0) ∧
  (∀ e : SlotEntry, e.inRange = true → SlotEntry.ofWords e.toWords = some e ∧
    ∃ a b c d x y, e.toWords = [a, b, c, d, x, y] ∧ a &&& 0x18C0 = 0 ∧ b &&& 0x8000 = 0 ∧ d &&& 0x00C0 = 0 ∧
      x &&& 0x8000 = 0 ∧ y &&& 0x8000 = 0) ∧
  ∀ e : PathEntry, e.inRange = true → PathEntry.ofWords e.toWords = some e ∧
    ∃ a b c, e.toWords = [a, b, c] ∧ a &&& 0x1FF8 = 0 ∧ b &&& 0x80C0 = 0 ∧ c &&& 0x0200 = 0

/-- R31, R32, R39, R116, R138, R168, R169: a PORT write within the table. Where an assembled entry holds a field out of
its range, the lowest such entry refuses it with RANGE and the first addressed offset in it. Else it is applied whole:
where it leaves every enabled field but S0's, no port changes state; where it changes that of one port S1 to S7, and
touches no other entry, it takes the port from OFF to DARK, or from any state to OFF, with PORT-DOWN from PASSING. -/
def Obligations.PortWriteApplies : Prop :=
  ∀ (f : MgmtFrame) (s : State), Executing .mwritePort f s → f.writeFormatOk = true → f.lastOffset < 48 →
    let fails (e : Nat) : Prop := (∃ p : Fin 8, p.1 = e ∧ portImage f e s.portTable[p] = none) ∨
      ∃ l : Fin 4, l.1 + 8 = e ∧ laneImage f e s.laneTable[l] = none
    (∀ e, f.touches 4 e = true → fails e → (∀ x < e, f.touches 4 x = true → ¬ fails x) → exec .mwritePort s =
      .next (returnChoose (replied f { statusReply f .range with offset := some (max f.offset (e * 4)) } s))) ∧
    ((∀ p : Fin 8, f.touches 4 p = true → ∃ e, portImage f p s.portTable[p] = some e ∧
        (p = 0 ∨ e.enabled = s.portTable[p].enabled)) →
      (∀ l : Fin 4, f.touches 4 (l.1 + 8) = true → (laneImage f (l.1 + 8) s.laneTable[l]).isSome = true) →
      ∃ ports lanes, exec .mwritePort s = .next (returnChoose
          (replied f (statusReply f .done) { s with portTable := ports, laneTable := lanes })) ∧
        (∀ p : Fin 8, some ports[p] =
          if f.touches 4 p then portImage f p s.portTable[p] else some s.portTable[p]) ∧
        ∀ l : Fin 4, some lanes[l] =
          if f.touches 4 (l.1 + 8) then laneImage f (l.1 + 8) s.laneTable[l] else some s.laneTable[l]) ∧
    ∀ (p : Fin 8) (e : PortEntry), p ≠ 0 → f.offset / 4 = p.1 → f.lastOffset / 4 = p.1 →
      portImage f p s.portTable[p] = some e → e.enabled ≠ s.portTable[p].enabled →
      let q : Port := if e.enabled then darkPort s.ports[p].rate else offPort s.ports[p].rate
      let u := setPort p q { s with portTable := s.portTable.set p e }
      exec .mwritePort s = .next (returnChoose (replied f (statusReply f .done)
        (if s.ports[p].mode = .passing then raise .portDown p.1 u else u)))

/-- R45, R46, R168, R169: a SOURCE write within the table. The lowest assembled entry with a field out of its range
refuses it with RANGE; else the lowest touched entry that would share its key with another used one refuses it with
PLAN; each with the first addressed offset in that entry. Else it is applied whole; a source whose kind or key changes
(log entry 29) has its latch reset, any other keeps it. -/
def Obligations.SourceWriteApplies : Prop :=
  ∀ (f : MgmtFrame) (s : State), Executing .mwriteSource f s → f.writeFormatOk = true → f.lastOffset < 96 →
    let refused (st : Status) (e : Fin 48) : State :=
      replied f { statusReply f st with offset := some (max f.offset (e.1 * 2)) } s
    (∀ e : Fin 48, f.touches 2 e = true → sourceImage f e s.sourceTable[e] = none →
      (∀ x : Fin 48, x < e → f.touches 2 x = true → (sourceImage f x s.sourceTable[x]).isSome = true) →
      exec .mwriteSource s = .next (returnChoose (refused .range e))) ∧
    ∀ table : Vector SourceEntry 48, (∀ q : Fin 48, some table[q] =
        if f.touches 2 q then sourceImage f q s.sourceTable[q] else some s.sourceTable[q]) →
      let clash (x : Fin 48) : Prop := ∃ y : Fin 48, y ≠ x ∧
        ((table[x].kind = .sensor ∧ table[y].kind = .sensor ∧ table[x].port = table[y].port ∧
            table[x].node = table[y].node ∧ table[x].channel = table[y].channel) ∨
          (table[x].kind = .aggressor ∧ table[y].kind = .aggressor ∧ table[x].slot = table[y].slot))
      (∀ e : Fin 48, f.touches 2 e = true → clash e → (∀ x : Fin 48, x < e → f.touches 2 x = true → ¬ clash x) →
        exec .mwriteSource s = .next (returnChoose (refused .plan e))) ∧
      ((∀ x : Fin 48, f.touches 2 x = true → ¬ clash x) → ∃ latches, exec .mwriteSource s = .next (returnChoose
          (replied f (statusReply f .done) { s with sourceTable := table, latches := latches })) ∧
        ∀ q : Fin 48, latches[q] =
          let a := s.sourceTable[q]
          let b := table[q]
          if a.kind ≠ b.kind ∨ (b.kind = .sensor ∧ (a.port ≠ b.port ∨ a.node ≠ b.node ∨ a.channel ≠ b.channel)) ∨
              (b.kind = .aggressor ∧ a.slot ≠ b.slot) then ⟨0, 255, false⟩
          else s.latches[q])

/-- R94, R96, R140, R168, R169: a SLOT write within the table. The lowest assembled entry with a field out of its range
refuses it with RANGE; else the lowest touched entry that it would disable while its channel is not OFF refuses it with
STATE; each with the first addressed offset in that entry. Else it is applied whole; where it changes a slot's mu floor
or ceiling, the current mu is brought between them (for such a slot only by log entry 28). -/
def Obligations.SlotWriteApplies : Prop :=
  ∀ (f : MgmtFrame) (s : State), Executing .mwriteSlot f s → f.writeFormatOk = true → f.lastOffset < 576 →
    let refused (st : Status) (e : Fin 96) : State :=
      replied f { statusReply f st with offset := some (max f.offset (e.1 * 6)) } s
    (∀ e : Fin 96, f.touches 6 e = true → slotImage f e s.slotTable[e] = none →
      (∀ x : Fin 96, x < e → f.touches 6 x = true → (slotImage f x s.slotTable[x]).isSome = true) →
      exec .mwriteSlot s = .next (returnChoose (refused .range e))) ∧
    ∀ table : Vector SlotEntry 96, (∀ n : Fin 96, some table[n] =
        if f.touches 6 n then slotImage f n s.slotTable[n] else some s.slotTable[n]) →
      let live (n : Fin 96) : Prop :=
        s.slotTable[n].enabled = true ∧ table[n].enabled = false ∧ s.channels[n].state ≠ .off
      (∀ e : Fin 96, live e → (∀ x : Fin 96, x < e → ¬ live x) →
        exec .mwriteSlot s = .next (returnChoose (refused .state e))) ∧
      ((∀ n : Fin 96, ¬ live n) → ∃ gain, exec .mwriteSlot s = .next (returnChoose
          (replied f (statusReply f .done) { s with slotTable := table, gain := gain })) ∧
        ∀ n : Fin 96, gain[n] =
          if s.slotTable[n].muFloor = table[n].muFloor ∧ s.slotTable[n].muCeiling = table[n].muCeiling then s.gain[n]
          else { s.gain[n] with mu := max table[n].muFloor (min table[n].muCeiling s.gain[n].mu) })

/-- R5 to R9, R11, R168, R169: a PATH write within the table, assembled over the projected table, in which entry i is
the image of the last pending update that names i, or else the current entry. The lowest assembled entry with a field
out of its range refuses it with RANGE; else the lowest touched entry that is enabled in the resulting table and breaks
a plan constraint there refuses it with PLAN; each with the first addressed offset in that entry. While STOPPED it is
then applied to the current table. While RUNNING one update per touched entry joins the pending list in ascending order
and the current table stays; without room for all of them the write is refused with BUSY and its starting offset. -/
def Obligations.PathWriteApplies : Prop :=
  (∀ (i : Fin 384) (s : State),
    (∀ a e b, s.pathPending = a ++ (i, e) :: b → (∀ x ∈ b, x.1 ≠ i) → (projected s)[i] = e) ∧
    ((∀ x ∈ s.pathPending, x.1 ≠ i) → (projected s)[i] = s.pathTable[i])) ∧
  ∀ (f : MgmtFrame) (s : State), Executing .mwritePath f s → f.writeFormatOk = true → f.lastOffset < 1152 →
    let refused (st : Status) (e : Fin 384) : State :=
      replied f { statusReply f st with offset := some (max f.offset (e.1 * 3)) } s
    (∀ e : Fin 384, f.touches 3 e = true → pathImage f e (projected s)[e] = none →
      (∀ x : Fin 384, x < e → f.touches 3 x = true → (pathImage f x (projected s)[x]).isSome = true) →
      exec .mwritePath s = .next (returnChoose (refused .range e))) ∧
    ∀ table : Vector PathEntry 384, (∀ i : Fin 384, some table[i] =
        if f.touches 3 i then pathImage f i (projected s)[i] else some (projected s)[i]) →
      let breaks (x : Fin 384) : Prop := table[x].state = .enabled ∧ (8 < enabledPaths table table[x].slot ∨
        ∃ y : Fin 384, y ≠ x ∧ table[y].state = .enabled ∧ table[y].block = table[x].block ∧
          (table[x].adaptive = true ∨ table[y].adaptive = true))
      let touched : List (Fin 384) := (List.finRange 384).filter (fun i : Fin 384 => f.touches 3 i.1)
      (∀ e : Fin 384, f.touches 3 e = true → breaks e → (∀ x : Fin 384, x < e → f.touches 3 x = true → ¬ breaks x) →
        exec .mwritePath s = .next (returnChoose (refused .plan e))) ∧
      ((∀ x : Fin 384, f.touches 3 x = true → ¬ breaks x) →
        (s.running = false → s.pathPending = [] → exec .mwritePath s =
          .next (returnChoose (replied f (statusReply f .done) { s with pathTable := table }))) ∧
        (s.running = true → s.pathPending.length + touched.length ≤ 16 → exec .mwritePath s =
          .next (returnChoose (replied f (statusReply f .done)
            { s with pathPending := s.pathPending ++ touched.map (fun i : Fin 384 => (i, table[i])) }))) ∧
        (s.running = true → 16 < s.pathPending.length + touched.length → exec .mwritePath s =
          .next (returnChoose (replied f { statusReply f .busy with offset := some f.offset } s))))

/-- R13, R170, R171, R186, R191, R199: an MREAD of a table other than TAPS, without clear, replies with the words at its
offsets, and changes nothing. The words of PORT, SOURCE, SLOT, PATH and NOTICE-MASK are read in one step. Those of
COUNTERS and STATUS are read one by one, each as it stands in its own step, so that another event may come between two
of them (log entry 15). The words of PORT, SOURCE, SLOT and PATH are those of the current entries, a word of NOTICE-MASK
is 1 for on; StatusAndCounterWords gives the others. -/
def Obligations.ReadRepliesWords : Prop :=
  (∀ (f : MgmtFrame) (size : Nat) (s : State), Executing .mread f s → f.payload.length = 3 → f.flag11 = false →
    1 ≤ f.count → f.count ≤ 28 → (f.table, size) ∈ [(1, 48), (2, 96), (3, 576), (4, 1152), (8, 13)] →
    f.offset + f.count ≤ size →
    exec .mread s = .next (returnChoose (replied f { statusReply f .done with
      data := (List.range f.count).map (fun i => tableWord s f.table (f.offset + i)) } s))) ∧
  (∀ (f : MgmtFrame) (ws : List Word) (size : Nat) (s : State), s.resetHeld = false →
    (ws = [] ∧ s.mgmt = .executing f .taken) ∨ s.mgmt = .executing f (.collecting ws) → rowOf f = some .mread →
    f.payload.length = 3 → f.flag11 = false → 1 ≤ f.count → f.count ≤ 28 → (f.table, size) ∈ [(6, 1308), (7, 1413)] →
    f.offset + f.count ≤ size →
    let all := ws ++ [tableWord s f.table (f.offset + ws.length)]
    exec .mread s = .next (returnChoose
      (if all.length < f.count then { s with mgmt := .executing f (.collecting all) }
       else replied f { statusReply f .done with data := all } s))) ∧
  ∀ s : State,
    (∀ (p : Fin 8) (j : Fin 4), some (tableWord s 1 (p.1 * 4 + j.1)) = s.portTable[p].toWords[j.1]?) ∧
    (∀ (l j : Fin 4), some (tableWord s 1 ((l.1 + 8) * 4 + j.1)) = s.laneTable[l].toWords[j.1]?) ∧
    (∀ (q : Fin 48) (j : Fin 2), some (tableWord s 2 (q.1 * 2 + j.1)) = s.sourceTable[q].toWords[j.1]?) ∧
    (∀ (t : Fin 96) (j : Fin 6), some (tableWord s 3 (t.1 * 6 + j.1)) = s.slotTable[t].toWords[j.1]?) ∧
    (∀ (i : Fin 384) (j : Fin 3), some (tableWord s 4 (i.1 * 3 + j.1)) = s.pathTable[i].toWords[j.1]?) ∧
    ∀ k : Fin 13, tableWord s 8 k.1 = if s.noticeMask[k] then 1 else 0

/-- R115, R137, R185, R193, R200: the words of COUNTERS and STATUS. Word j of an entry of COUNTERS is the counter that
R185 lists there, or 0. The words of the STATUS entries of the device, the ports, the sources, the lanes and the slots
hold their fields at the places R200 gives, each field written as its value times the value of its lowest bit; the words
after them are 0. -/
def Obligations.StatusAndCounterWords : Prop :=
  ∀ s : State,
    let group (e : Nat) (ids : List CounterId) : Prop := ∀ j < 12, counterAt (e * 12 + j) = ids[j]? ∧
      tableWord s 6 (e * 12 + j) = ((ids[j]?).map s.counters.read).getD 0
    let words (e : Nat) (ws : List Word) : Prop := ∀ j < 9, tableWord s 7 (e * 9 + j) = ws.getD j 0
    let yes (b : Bool) (n : Nat) : Nat := if b then n else 0
    let w (n : Nat) : Word := BitVec.ofNat 16 n
    (∀ p : Fin 8, group p.1 ([.received, .valid, .damaged, .short, .babble, .format].map (.port p))) ∧
    (∀ l : Fin 4, group (8 + l.1) ([.sent, .matched, .unmatched, .damaged, .short, .babble, .format].map (.lane l))) ∧
    (∀ t : Fin 96, group (12 + t.1) ([.clamp, .adapted, .late, .stale, .sequence, .saturation, .overrun, .miss, .defer,
      .fault, .haltTimeout].map (.slot t))) ∧
    group 108 ([.passOverrun, .reportDrops, .mgmtDrops, .parityE, .parityO, .parityH].map .global) ∧
    words 0 [
      w (yes s.running 32768 + yes (s.pass.stage != .idle) 16384 + 4096 * (match s.pass.lastOutcome with
          | .none => 0
          | .completed => 1
          | .overrun => 2
          | .restarted => 3) +
        yes s.parityFlags.e 1024 + yes s.parityFlags.o 512 + yes s.parityFlags.h 256 + s.period),
      s.seq, s.pass.seq, w (256 * s.pathPending.length + s.pass.walkPos),
      w (yes s.engine.isSome 32768 + 256 * ((s.engine.map (fun v => v.slot.1)).getD 0) + s.reports.length),
      (s.engine.map (·.seq)).getD 0,
      w (16384 * (match s.mgmt with
          | .idle => 0
          | .executing _ _ => 1
          | .holding _ => 2) +
        4096 * (match s.dump.state with
          | .idle => 0
          | .reading => 1
          | .holding => 2
          | .finishing => 3) + s.mgmtQueue.length),
      w (yes (s.dump.state != .idle) s.dump.next.1), w s.notices.length] ∧
    (∀ p : Fin 8, let q := s.ports[p]
      words (1 + p.1) [
        w (16384 * (match q.mode with
            | .off => 0
            | .dark => 1
            | .qualifying => 2
            | .passing => 3) +
          yes q.stable 8192 + 256 * q.stableRun + 16 * q.run + q.linkErrors), w q.rate]) ∧
    (∀ n : Fin 48, words (9 + n.1) [s.latches[n].value, w (yes s.latches[n].fresh 32768 + s.latches[n].age)]) ∧
    (∀ l : Fin 4, let k := s.lanes[l]
      words (57 + l.1) [w (yes k.up 32768 + yes k.tx.isSome 16384 + 256 * k.linkErrors + k.divisorInForce),
        w (256 * k.timed.length + k.untimed.length)]) ∧
    ∀ t : Fin 96, let c := s.channels[t]
      words (61 + t.1) [
        w (8192 * (match c.state with
            | .off => 0
            | .probe => 1
            | .run => 2
            | .halting => 3
            | .halted => 4
            | .retired => 5) + 2048 * c.miss +
          512 * (match c.cause with
            | none => 0
            | some .command => 1
            | some .lane => 2
            | some .drive => 3) +
          yes s.outstanding[t].isSome 256 + 64 * (match s.outstanding[t].map (·.kind) with
            | none => 0
            | some .correct => 1
            | some .probe => 2
            | some .halt => 3) + s.gain[t].quietRun),
        (s.outstanding[t].map (·.seq)).getD 0, w (yes s.gain[t].last.isSome 32768 + s.gain[t].mu),
        s.gain[t].last.getD 0]

/-- R172, R184 to R186: a COUNTERS read with clear returns each addressed counter and sets it to 0, word by word, the
read and the clear of a counter in one step, so that another event may come between two words (log entry 15); a word
that holds no counter returns 0 and changes nothing. No other counter changes. -/
def Obligations.CountersReadClears : Prop :=
  ∀ (f : MgmtFrame) (ws : List Word) (s : State), s.resetHeld = false →
    (ws = [] ∧ s.mgmt = .executing f .taken) ∨ s.mgmt = .executing f (.collecting ws) →
    rowOf f = some .mreadCountersClear → 1 ≤ f.count → f.count ≤ 28 → f.offset + f.count ≤ 1308 →
    let at? := counterAt (f.offset + ws.length)
    let all := ws ++ [(at?.map s.counters.read).getD 0]
    ∃ counters, exec .mreadCountersClear s = .next (returnChoose { s with
        counters := counters
        mgmt := .executing f (if all.length < f.count then .collecting all
          else .finished { statusReply f .done with data := all }) }) ∧
      ∀ c, counters.read c = if at? = some c then 0 else s.counters.read c

/-- R166, R168, R191: a write of NOTICE-MASK sets the addressed entries from bit 0 of their words; a write of COUNTERS
or STATUS is refused with RANGE and its first offset (log entry 17). -/
def Obligations.MaskWriteApplies : Prop :=
  ∀ (f : MgmtFrame) (s : State), Executing .mwrite f s → f.writeFormatOk = true →
    (f.table = 8 → f.lastOffset < 13 → ∃ mask, exec .mwrite s = .next (returnChoose
        (replied f (statusReply f .done) { s with noticeMask := mask })) ∧
      ∀ k : Fin 13, mask[k] = match f.supplied k with
        | some w => w.getLsbD 0
        | none => s.noticeMask[k]) ∧
    (f.table = 6 ∨ f.table = 7 → exec .mwrite s =
      .next (returnChoose (replied f { statusReply f .range with offset := some f.offset } s)))

/-- R54, R55, R56, R12, R88, R97: RUN, STOP, CLEAR-PARITY and GAIN-RESTART, carried out, and the arguments that RUN and
GAIN-RESTART refuse with RANGE. -/
def Obligations.SimpleActions : Prop :=
  ∀ (f : MgmtFrame) (s : State),
    (∀ a, Executing .run f s → f.arg1 = some a → a = 0 ∨ (16 ≤ a ∧ a ≤ 250) →
      let p := if a = 0 then s.period else a
      exec .run s = .next (returnChoose (replied f (statusReply f .done)
        (if s.running then { s with period := p } else { s with period := p, running := true, timer := some p })))) ∧
    (∀ a, Executing .run f s → f.arg1 = some a → a ≠ 0 → (a < 16 ∨ 250 < a) →
      exec .run s = .next (returnChoose (replied f (statusReply f .range) s))) ∧
    (Executing .stop f s → exec .stop s = .next (returnChoose (replied f (statusReply f .done)
      (if s.running then { s with running := false, timer := none, pathTable := projected s, pathPending := [] }
       else s)))) ∧
    (Executing .clearParity f s → exec .clearParity s =
      .next (returnChoose (replied f (statusReply f .done) { s with parityFlags := ⟨false, false, false⟩ }))) ∧
    (∀ t : Fin 96, Executing .gainRestart f s → f.arg1 = some t.1 → exec .gainRestart s =
      .next (returnChoose (replied f (statusReply f .done)
        { s with gain := s.gain.set t ⟨s.slotTable[t].muStart, 0, none⟩ }))) ∧
    (∀ a, Executing .gainRestart f s → f.arg1 = some a → 95 < a → exec .gainRestart s =
      .next (returnChoose (replied f (statusReply f .range) s)))

/-- R12, R47, R76, R111, R135, R154, R174, R180: RESTART. The device is STOPPED with its pending updates applied;
latches, reports, gains, queues, outstanding records and channels are reset, a frame on a line goes on and will enter no
record. With no pass in flight, or one that has walked all its slots, which then ends, history, push position and
sequence are cleared at once; another pass is marked to end after its stage or slot, unless an expiry has cut it already
(log entry 20). A path update under way is let end, its walk abandoned; one that waits for a push is not under way (log
entry 33). Of a dump, a block read requested or under way is let end; else the frame held, or the LAST frame in its
place, is discarded and an ABORTED frame with the next block (log entry 19) placed, and the engine is idle; a LAST frame
already chosen is left. The reply is to come. The tables, the taps, the counters and the notices stay. -/
def Obligations.RestartResets : Prop :=
  ∀ (f : MgmtFrame) (s : State) (readOut : Bool), Executing .restart f s →
    (s.pass.stage = .walk → s.pass.walkPos = 96 → s.pass.waiting = 0) →
    (readOut = true ↔ ∃ b : BankId, (s.bank b).waitDump.isSome = true ∨
      ∃ u blk, (s.bank b).busy = some u ∧ u.op = .dumpRead blk) →
    let walked := s.pass.stage = .walk ∧ 96 ≤ s.pass.walkPos
    let clears := s.pass.stage = .idle ∨ walked
    let aborts := s.dump.state = .holding ∨ (s.dump.state = .finishing ∧ s.ret.dumpPlace.isSome = true) ∨
      (s.dump.state = .reading ∧ readOut = false)
    s.pass.walkPos ≤ 96 →
    ∃ gain lanes, exec .restart s = .next (returnChoose { s with
        running := false, timer := none, pathTable := projected s, pathPending := []
        latches := Vector.replicate 48 ⟨0, 255, false⟩, reports := [], gain := gain, lanes := lanes
        outstanding := Vector.replicate 96 none, channels := Vector.replicate 96 ⟨.off, 0, none⟩
        mgmt := .executing f .restarting
        engine := s.engine.bind (fun v => if v.updating then some { v with abandon := true } else none)
        history := if clears then [] else s.history
        pushPos := if clears then 0 else s.pushPos
        seq := if clears then 0 else s.seq
        pass :=
          if s.pass.stage = .idle then s.pass
          else if walked then { s.pass with stage := .idle, lastOutcome := .restarted, ending := none, comp := none }
          else { s.pass with ending := s.pass.ending.or (some .restart) }
        dump :=
          if aborts then { s.dump with state := .idle, held := none, aborting := false }
          else if s.dump.state = .reading then { s.dump with aborting := true } else s.dump
        ret := if aborts then { s.ret with dumpPlace := some ⟨s.dump.next, false, false, true, []⟩ } else s.ret }) ∧
      (∀ n : Fin 96, gain[n] = ⟨s.slotTable[n].muStart, 0, none⟩) ∧
      ∀ l : Fin 4, lanes[l] = { s.lanes[l] with
        timed := [], untimed := [], tx := s.lanes[l].tx.map (fun x => ⟨x.frame, false⟩) }

/-- R141, R142, R143: the three channel actions, state by state. -/
def Obligations.ChannelActions : Prop :=
  ∀ (f : MgmtFrame) (t : Fin 96) (s : State), f.arg1 = some t.1 →
    let l := slotLane t
    let state := s.channels[t].state
    let done := replied f (statusReply f .done)
    let refused := replied f (statusReply f .state) s
    (Executing .startSlot f s → exec .startSlot s = .next (returnChoose
      (match state with
      | .off => if s.slotTable[t].enabled then done (setChannel t ⟨.probe, 0, none⟩ s) else refused
      | .halted => done (raise .channelState t.1 (setChannel t ⟨.probe, 0, none⟩ s))
      | .probe | .run | .halting | .retired => refused))) ∧
    (Executing .haltSlot f s → exec .haltSlot s = .next (returnChoose
      (match state with
      | .run | .probe =>
          if s.lanes[l].untimed.length < 8 then
            done (laneChoose l (setLane l { s.lanes[l] with
              timed := s.lanes[l].timed.filter (fun e => decide (e.slot ≠ t))
              untimed := s.lanes[l].untimed ++ [⟨t, s.seq, false⟩] } (setChannel t ⟨.halting, 0, none⟩ s)))
          else replied f (statusReply f .busy) s
      | .halting | .halted => done s
      | .off | .retired => refused))) ∧
    (Executing .releaseSlot f s → exec .releaseSlot s = .next (returnChoose
      (match state with
      | .halted | .retired => done (setChannel t ⟨.off, 0, none⟩ s)
      | .off => done s
      | .run | .probe | .halting => refused)))

/-- R122, R39: LANE-RESET of a lane, with LANE-DOWN where it was UP, and PORT-RESET of a port in each state. -/
def Obligations.LaneAndPortReset : Prop :=
  ∀ (f : MgmtFrame) (s : State),
    (∀ l : Fin 4, Executing .laneReset f s → f.arg1 = some l.1 →
      ∃ u : State, LaneEmptied l s u ∧ exec .laneReset s = .next (returnChoose
        (replied f (statusReply f .done) (if s.lanes[l].up then raise .laneDown l.1 u else u)))) ∧
    ∀ p : Fin 8, Executing .portReset f s → f.arg1 = some p.1 →
      let u := setPort p (darkPort s.ports[p].rate) s
      exec .portReset s = .next (returnChoose (replied f (statusReply f .done)
        (match s.ports[p].mode with
        | .off => s
        | .passing => raise .portDown p.1 u
        | .qualifying | .dark => u)))

/-- R173, R176 to R180: DUMP of blocks a to b with the engine idle is accepted: the record is set, the engine is
reading, and the first read waits for the REPLY; with a dump in progress it is refused with BUSY, and a range out of
order with RANGE. A block read completes, its bank takes the next waiting operation (`takeNext`, BankArbiterPriority; in
this order by log entry 11), and its failing words are counted, flagged and raised: its frame, with the LAST flag
for the last block, the parity mark of the read and the words as stored, takes an empty dump place, or is held while the
place is full. Placed, the LAST frame leaves the engine finishing; after another the next field moves on and that
block's read is requested. Of an aborted dump the read is discarded, the ABORTED frame placed (with the next block by
log entry 19), and the engine is idle. When the LAST frame's transmission ends, the engine is idle and DUMP-DONE is
raised. -/
def Obligations.DumpStartsAndFinishes : Prop :=
  (∀ (f : MgmtFrame) (a b : Fin 512) (s : State), Executing .dump f s → f.arg1 = some a.1 → f.arg2 = some b.1 →
    (a ≤ b → s.dump.state = .idle →
      exec .dump s = .next (returnChoose (replied f { statusReply f .done with startsDump := true }
        { s with dump := { s.dump with state := .reading, next := a, last := b } }))) ∧
    (a ≤ b → s.dump.state ≠ .idle → exec .dump s = .next (returnChoose (replied f (statusReply f .busy) s))) ∧
    (b < a → exec .dump s = .next (returnChoose (replied f (statusReply f .range) s)))) ∧
  (∀ (b : BankId) (blk : Fin 512) (words : List StoredWord) (s : State), s.resetHeld = false →
    (s.bank b).busy = some ⟨.dumpRead blk, words, 0⟩ →
    let t := checkParity (if b = .e then .e else .o) words (takeNext b s)
    let d : DumpFrame :=
      ⟨blk, words.any (fun w => !w.good), decide (blk = s.dump.last), false, words.map (·.value)⟩
    (s.dump.aborting = false → s.ret.dumpPlace = none → blk = s.dump.last →
      exec (.tapOperationComplete b) s = .next (returnChoose { t with
        ret := { s.ret with dumpPlace := some d }, dump := { s.dump with state := .finishing, held := none } })) ∧
    (s.dump.aborting = false → s.ret.dumpPlace = none → blk ≠ s.dump.last →
      exec (.tapOperationComplete b) s = .next (returnChoose
        (request (if (s.dump.next + 1).1 % 2 = 0 then .e else .o) (.dumpRead (s.dump.next + 1)) { t with
          ret := { s.ret with dumpPlace := some d }
          dump := { s.dump with state := .reading, next := s.dump.next + 1, held := none } }))) ∧
    (s.dump.aborting = false → s.ret.dumpPlace.isSome = true →
      exec (.tapOperationComplete b) s = .next (returnChoose { t with
        dump := { s.dump with state := .holding, held := some d } })) ∧
    (s.dump.aborting = true → exec (.tapOperationComplete b) s = .next (returnChoose { t with
      ret := { s.ret with dumpPlace := some ⟨s.dump.next, false, false, true, []⟩ }
      dump := { s.dump with state := .idle, held := none, aborting := false } }))) ∧
  ∀ (d : DumpFrame) (s : State), s.resetHeld = false → s.ret.line = some (.dump d) → d.last = true →
    s.dump.state = .finishing → s.ret.dumpPlace = none →
    exec .returnTransmitEnd s = .next (returnChoose (raise .dumpDone 0
      { s with ret := { s.ret with line := none }, dump := { s.dump with state := .idle } }))

/-- R165, R174, R177, R180 to R183, R202: the end of a frame on the return frees the line, and the arbiter chooses. The
REPLY in its place goes first, and a REPLY that the Management Unit holds then takes the place, the unit idle and an
accepted DUMP's first block requested. With the place empty and a notice or a DUMP frame waiting, the REPLY of a frame
whose effects are complete is placed at once and goes, before EXECUTION_COMPLETE (log entry 34); so the first frame
after reset is the first REPLY, however soon a notice is raised. Then the oldest notice goes, which leaves the list;
then the DUMP frame, and a frame that the dump engine holds then takes the place, the engine finishing after the LAST
one, else the next block requested. On a busy line, or with nothing waiting, the arbiter does nothing. A RESTART whose
work has ended becomes a frame whose effects are complete at the end of the step, after the choice, so that the ABORTED
frame it forms on an idle line leaves first. -/
def Obligations.ReturnChoosesNext : Prop :=
  ∀ s : State,
    (∀ x, s.resetHeld = false → s.ret.line = some x → (∀ d, x = .dump d → d.last = false) →
      exec .returnTransmitEnd s = .next (returnChoose { s with ret := { s.ret with line := none } })) ∧
    (∀ f, s.mgmt = .executing f .restarting → RestartSettled s → returnChoose s =
      { returnChoose { s with mgmt := .executing f .taken } with
        mgmt := .executing f (.finished (statusReply f .done)) }) ∧
    ((∀ f, s.mgmt = .executing f .restarting → ¬ RestartSettled s) →
      (s.ret.line.isSome = true → returnChoose s = s) ∧
      (s.ret.line = none →
        (∀ r, s.ret.replyPlace = some r →
          ((∀ h, s.mgmt ≠ .holding h) →
            returnChoose s = { s with ret := { s.ret with line := some (.reply r), replyPlace := none } }) ∧
          (∀ h, s.mgmt = .holding h →
            let u : State := { s with
              mgmt := .idle, ret := { s.ret with line := some (.reply r), replyPlace := some h } }
            returnChoose s = if h.startsDump then
              request (if s.dump.next.1 % 2 = 0 then .e else .o) (.dumpRead s.dump.next) u else u)) ∧
        (s.ret.replyPlace = none → s.notices ≠ [] ∨ s.ret.dumpPlace.isSome = true → ∀ f r, ReplyReady f r s →
          let u : State := { s with mgmt := .idle, ret := { s.ret with line := some (.reply r) } }
          returnChoose s = if r.startsDump then
            request (if s.dump.next.1 % 2 = 0 then .e else .o) (.dumpRead s.dump.next) u else u) ∧
        (s.ret.replyPlace = none → (∀ f r, ¬ ReplyReady f r s) →
          (∀ n rest, s.notices = n :: rest →
            returnChoose s = { s with ret := { s.ret with line := some (.notice n) }, notices := rest }) ∧
          (s.notices = [] → ∀ d, s.ret.dumpPlace = some d →
            (s.dump.held = none →
              returnChoose s = { s with ret := { s.ret with line := some (.dump d), dumpPlace := none } }) ∧
            (∀ h, s.dump.held = some h →
              let u : State := { s with ret := { s.ret with line := some (.dump d), dumpPlace := some h } }
              returnChoose s = if h.last then { u with dump := { s.dump with state := .finishing, held := none } }
                else request (if (s.dump.next + 1).1 % 2 = 0 then .e else .o) (.dumpRead (s.dump.next + 1))
                  { u with dump := { s.dump with state := .reading, next := s.dump.next + 1, held := none } }))) ∧
        (s.ret.replyPlace = none → s.notices = [] → s.ret.dumpPlace = none → returnChoose s = s)))

/-- R123, R155, R158, R178, R183, R194 to R198: the words of the frames the part sends, each the header, the payload and
the CRC over them: CORRECT, PROBE and HALT of a lane's entries, and REPLY, NOTICE and DUMP of the return, with the
fields at the places R194, R197 and R198 give, each written as its value times the value of its lowest bit. The CRC
takes the words in order, each from bit 15 to bit 0. -/
def Obligations.SentFrameWords : Prop :=
  let w (n : Nat) : Word := BitVec.ofNat 16 n
  let yes (b : Bool) (n : Nat) : Nat := if b then n else 0
  let sent (ws : List Word) : List Word := ws ++ [crc16 ws]
  (∀ (t : Fin 96) (q v : Word) (c aged : Bool),
    (TimedEntry.frame ⟨t, q, .correct v c⟩).words =
      sent [w (5 * 4096 + 32 * t.1 + 3), q, v, if c then 1 else 0] ∧
    (TimedEntry.frame ⟨t, q, .probe⟩).words = sent [w (6 * 4096 + 32 * t.1 + 1), q] ∧
    (HaltEntry.frame ⟨t, q, aged⟩).words = sent [w (7 * 4096 + 32 * t.1 + 1), q]) ∧
  (∀ r : Reply,
    let code := match r.status with
      | .done => 0
      | .busy => 1
      | .state => 2
      | .range => 3
      | .plan => 4
      | .format => 5
    (ReturnFrame.reply r).words = sent ([
      w (9 * 4096 + (2 + (r.offset.toList.length + r.data.length))), r.tag,
      w (yes r.parityPos.isSome 32768 + yes r.offset.isSome 16384 + 256 * r.parityPos.getD 0 + code)] ++
      r.offset.toList.map w ++ r.data)) ∧
  (∀ (n : Notice) (number : Nat), (n.kind, number) ∈ [(NoticeKind.portUp, 0), (.portDown, 1), (.laneUp, 2),
      (.laneDown, 3), (.channelState, 4), (.slotOverrun, 5), (.haltUnanswered, 6), (.passOverrun, 7), (.parity, 8),
      (.mgmtDrop, 9), (.adaptDrop, 10), (.dumpDone, 11), (.counterFull, 12)] →
    (ReturnFrame.notice n).words = sent [w (10 * 4096 + 2), w (4096 * number + n.index), w n.count]) ∧
  (∀ d : DumpFrame, (ReturnFrame.dump d).words = sent (
    w (11 * 4096 + yes d.parity 2048 + yes d.last 1024 + yes d.aborted 512 + d.block.1) ::
      if d.aborted then [] else d.taps)) ∧
  crc16 [] = 65535 ∧
  ∀ (ws : List Word) (x : Word), crc16 (ws ++ [x]) = (List.range 16).foldl (fun (reg : Word) i =>
    if x.getLsbD (15 - i) = reg.getLsbD 15 then reg <<< 1 else (reg <<< 1) ^^^ 4129) (crc16 ws)

/-! ### Notices and counters (chapter 9) -/

/-- R190: a raise of a masked kind does nothing. A raise of a key the list holds adds one to its count, to at most 255,
and leaves its place; a raise of an absent key joins the tail with count 1. So n raises of one key count n in one entry,
to at most 255. -/
def Obligations.RaiseAddsOneOccurrence : Prop :=
  ∀ (k : NoticeKind) (i : Nat) (s : State),
    (s.noticeMask[k.number] = false → raise k i s = s) ∧
    (s.noticeMask[k.number] = true →
      (∀ a n b, s.notices = a ++ n :: b → n.kind = k → n.index = i → (∀ x ∈ a, ¬ (x.kind = k ∧ x.index = i)) →
        raise k i s = { s with notices := a ++ ⟨k, i, min 255 (n.count + 1)⟩ :: b }) ∧
      ((∀ x ∈ s.notices, ¬ (x.kind = k ∧ x.index = i)) → ∀ n, n < 255 →
        (raise k i)^[n + 1] s = { s with notices := s.notices ++ [⟨k, i, n + 1⟩] }))

/-- R184, R187: an increment adds 1; at 65535 it changes nothing; from 65534 it also raises COUNTER-FULL. No other
counter moves. -/
def Obligations.IncrementSaturates : Prop :=
  ∀ (i : CounterId) (s : State),
    (s.counters.read i = 65535 → incr i s = s) ∧
    (s.counters.read i ≠ 65535 → ((incr i s).counters.read i).toNat = (s.counters.read i).toNat + 1 ∧
      (∀ j, j ≠ i → (incr i s).counters.read j = s.counters.read j) ∧
      incr i s = if s.counters.read i = 65534 then raise .counterFull 0 { s with counters := (incr i s).counters }
        else { s with counters := (incr i s).counters })

/-! ### Invariants of every step -/

/-- The state after reset meets every invariant stated below. -/
def Obligations.ResetMeetsInvariants : Prop :=
  let s := State.reset
  StoresCanonical s ∧ QueuesBounded s ∧ TrafficConsistent s ∧ ChannelsLegal s ∧ GainLegal s ∧ NoticesLegal s ∧
    PlanHolds s ∧ TablesInRange s ∧ KeysUnique s ∧ LiveSlotsEnabled s ∧ PortsLegal s ∧ BanksBusy s ∧ ReturnBusy s ∧
    LanesBusy s ∧ LanesLegal s ∧ DeviceLegal s

/-- R53, R54, R57, R59, R61, R77, R10, R91, R158, R164, R189, R190: every step keeps the two stores canonical (log entry
22); the queues within their capacities, and the pending list empty while STOPPED; the timer running exactly while
RUNNING; the period, the push position and the walk position in range; and each condition key at most once in the notice
list, its index in range and its count from 1 to 255. -/
def Obligations.StepKeepsStoresAndQueues : Prop :=
  ∀ s t : State, step s = .next t → (StoresCanonical s → StoresCanonical t) ∧ (QueuesBounded s → QueuesBounded t) ∧
    (DeviceLegal s → DeviceLegal t) ∧ (NoticesLegal s → NoticesLegal t)

/-- R139, R140, R151, R155 and what they rest on: every step keeps the entries that wait, the frames on the lines and
the outstanding records of each slot in keeping with its channel's state, the miss counts and halt causes of the
channels, and the enabling of every live slot. -/
def Obligations.StepKeepsTrafficConsistent : Prop :=
  ∀ s t : State, step s = .next t → (TrafficConsistent s → TrafficConsistent t) ∧
    (ChannelsLegal s ∧ LiveSlotsEnabled s → ChannelsLegal t ∧ LiveSlotsEnabled t)

/-- R2, R5, R10, R11, R14, R31, R44, R45, R66, R94, R95, R116: every step keeps every table entry in its ranges and the
source keys unique; the plan constraints in the current and in the projected Path Table; and each slot's current mu
within its floor and ceiling and its quiet run below 16. -/
def Obligations.StepKeepsTablesLegal : Prop :=
  ∀ s t : State, step s = .next t → (TablesInRange s ∧ KeysUnique s → TablesInRange t ∧ KeysUnique t) ∧
    (PlanHolds s → PlanHolds t) ∧ (GainLegal s → GainLegal t)

/-- R25, R32, R37, R39, R41, R79, R118, R120, R160, R161, R165, R177, R182: every step keeps a port in OFF or DARK
cleared, and one in QUALIFYING or PASSING with its watchdog and a gate running; a DOWN lane with nothing sent, collected
or outstanding; and nothing left to wait for an idle bank, an idle return line, or the free line of an UP lane. -/
def Obligations.StepKeepsPortsLanesArbiters : Prop :=
  ∀ s t : State, step s = .next t → (PortsLegal s → PortsLegal t) ∧ (LanesLegal s → LanesLegal t) ∧
    (BanksBusy s → BanksBusy t) ∧ (ReturnBusy s → ReturnBusy t) ∧ (LanesBusy s → LanesBusy t)
end

