-- ==== Sys2Proof/Laws/State.lean ====
section
/-! SUPPORT. One lemma per field per named update of the state, so that no proof unfolds a record update. -/

namespace Sys2Proof
namespace Machine

/-! ### setPort -/

@[simp] theorem setPort_resetHeld (p : Fin 8) (x : Port) (s : State) : (setPort p x s).resetHeld = s.resetHeld := rfl
@[simp] theorem setPort_portTable (p : Fin 8) (x : Port) (s : State) : (setPort p x s).portTable = s.portTable := rfl
@[simp] theorem setPort_ports (p : Fin 8) (x : Port) (s : State) : (setPort p x s).ports = s.ports.set p x := rfl
@[simp] theorem setPort_sourceTable (p : Fin 8) (x : Port) (s : State) :
    (setPort p x s).sourceTable = s.sourceTable := rfl
@[simp] theorem setPort_latches (p : Fin 8) (x : Port) (s : State) : (setPort p x s).latches = s.latches := rfl
@[simp] theorem setPort_history (p : Fin 8) (x : Port) (s : State) : (setPort p x s).history = s.history := rfl
@[simp] theorem setPort_pushPos (p : Fin 8) (x : Port) (s : State) : (setPort p x s).pushPos = s.pushPos := rfl
@[simp] theorem setPort_running (p : Fin 8) (x : Port) (s : State) : (setPort p x s).running = s.running := rfl
@[simp] theorem setPort_period (p : Fin 8) (x : Port) (s : State) : (setPort p x s).period = s.period := rfl
@[simp] theorem setPort_timer (p : Fin 8) (x : Port) (s : State) : (setPort p x s).timer = s.timer := rfl
@[simp] theorem setPort_seq (p : Fin 8) (x : Port) (s : State) : (setPort p x s).seq = s.seq := rfl
@[simp] theorem setPort_pass (p : Fin 8) (x : Port) (s : State) : (setPort p x s).pass = s.pass := rfl
@[simp] theorem setPort_pathTable (p : Fin 8) (x : Port) (s : State) : (setPort p x s).pathTable = s.pathTable := rfl
@[simp] theorem setPort_pathPending (p : Fin 8) (x : Port) (s : State) :
    (setPort p x s).pathPending = s.pathPending := rfl
@[simp] theorem setPort_taps (p : Fin 8) (x : Port) (s : State) : (setPort p x s).taps = s.taps := rfl
@[simp] theorem setPort_bankE (p : Fin 8) (x : Port) (s : State) : (setPort p x s).bankE = s.bankE := rfl
@[simp] theorem setPort_bankO (p : Fin 8) (x : Port) (s : State) : (setPort p x s).bankO = s.bankO := rfl
@[simp] theorem setPort_parityFlags (p : Fin 8) (x : Port) (s : State) :
    (setPort p x s).parityFlags = s.parityFlags := rfl
@[simp] theorem setPort_reports (p : Fin 8) (x : Port) (s : State) : (setPort p x s).reports = s.reports := rfl
@[simp] theorem setPort_engine (p : Fin 8) (x : Port) (s : State) : (setPort p x s).engine = s.engine := rfl
@[simp] theorem setPort_gain (p : Fin 8) (x : Port) (s : State) : (setPort p x s).gain = s.gain := rfl
@[simp] theorem setPort_slotTable (p : Fin 8) (x : Port) (s : State) : (setPort p x s).slotTable = s.slotTable := rfl
@[simp] theorem setPort_channels (p : Fin 8) (x : Port) (s : State) : (setPort p x s).channels = s.channels := rfl
@[simp] theorem setPort_outstanding (p : Fin 8) (x : Port) (s : State) :
    (setPort p x s).outstanding = s.outstanding := rfl
@[simp] theorem setPort_laneTable (p : Fin 8) (x : Port) (s : State) : (setPort p x s).laneTable = s.laneTable := rfl
@[simp] theorem setPort_lanes (p : Fin 8) (x : Port) (s : State) : (setPort p x s).lanes = s.lanes := rfl
@[simp] theorem setPort_counters (p : Fin 8) (x : Port) (s : State) : (setPort p x s).counters = s.counters := rfl
@[simp] theorem setPort_mgmtQueue (p : Fin 8) (x : Port) (s : State) : (setPort p x s).mgmtQueue = s.mgmtQueue := rfl
@[simp] theorem setPort_mgmt (p : Fin 8) (x : Port) (s : State) : (setPort p x s).mgmt = s.mgmt := rfl
@[simp] theorem setPort_dump (p : Fin 8) (x : Port) (s : State) : (setPort p x s).dump = s.dump := rfl
@[simp] theorem setPort_ret (p : Fin 8) (x : Port) (s : State) : (setPort p x s).ret = s.ret := rfl
@[simp] theorem setPort_notices (p : Fin 8) (x : Port) (s : State) : (setPort p x s).notices = s.notices := rfl
@[simp] theorem setPort_noticeMask (p : Fin 8) (x : Port) (s : State) : (setPort p x s).noticeMask = s.noticeMask := rfl
@[simp] theorem setPort_resumes (p : Fin 8) (x : Port) (s : State) : (setPort p x s).resumes = s.resumes := rfl
@[simp] theorem setPort_pending (p : Fin 8) (x : Port) (s : State) : (setPort p x s).pending = s.pending := rfl

/-! ### setLane -/

@[simp] theorem setLane_resetHeld (l : Fin 4) (x : Lane) (s : State) : (setLane l x s).resetHeld = s.resetHeld := rfl
@[simp] theorem setLane_portTable (l : Fin 4) (x : Lane) (s : State) : (setLane l x s).portTable = s.portTable := rfl
@[simp] theorem setLane_ports (l : Fin 4) (x : Lane) (s : State) : (setLane l x s).ports = s.ports := rfl
@[simp] theorem setLane_sourceTable (l : Fin 4) (x : Lane) (s : State) :
    (setLane l x s).sourceTable = s.sourceTable := rfl
@[simp] theorem setLane_latches (l : Fin 4) (x : Lane) (s : State) : (setLane l x s).latches = s.latches := rfl
@[simp] theorem setLane_history (l : Fin 4) (x : Lane) (s : State) : (setLane l x s).history = s.history := rfl
@[simp] theorem setLane_pushPos (l : Fin 4) (x : Lane) (s : State) : (setLane l x s).pushPos = s.pushPos := rfl
@[simp] theorem setLane_running (l : Fin 4) (x : Lane) (s : State) : (setLane l x s).running = s.running := rfl
@[simp] theorem setLane_period (l : Fin 4) (x : Lane) (s : State) : (setLane l x s).period = s.period := rfl
@[simp] theorem setLane_timer (l : Fin 4) (x : Lane) (s : State) : (setLane l x s).timer = s.timer := rfl
@[simp] theorem setLane_seq (l : Fin 4) (x : Lane) (s : State) : (setLane l x s).seq = s.seq := rfl
@[simp] theorem setLane_pass (l : Fin 4) (x : Lane) (s : State) : (setLane l x s).pass = s.pass := rfl
@[simp] theorem setLane_pathTable (l : Fin 4) (x : Lane) (s : State) : (setLane l x s).pathTable = s.pathTable := rfl
@[simp] theorem setLane_pathPending (l : Fin 4) (x : Lane) (s : State) :
    (setLane l x s).pathPending = s.pathPending := rfl
@[simp] theorem setLane_taps (l : Fin 4) (x : Lane) (s : State) : (setLane l x s).taps = s.taps := rfl
@[simp] theorem setLane_bankE (l : Fin 4) (x : Lane) (s : State) : (setLane l x s).bankE = s.bankE := rfl
@[simp] theorem setLane_bankO (l : Fin 4) (x : Lane) (s : State) : (setLane l x s).bankO = s.bankO := rfl
@[simp] theorem setLane_parityFlags (l : Fin 4) (x : Lane) (s : State) :
    (setLane l x s).parityFlags = s.parityFlags := rfl
@[simp] theorem setLane_reports (l : Fin 4) (x : Lane) (s : State) : (setLane l x s).reports = s.reports := rfl
@[simp] theorem setLane_engine (l : Fin 4) (x : Lane) (s : State) : (setLane l x s).engine = s.engine := rfl
@[simp] theorem setLane_gain (l : Fin 4) (x : Lane) (s : State) : (setLane l x s).gain = s.gain := rfl
@[simp] theorem setLane_slotTable (l : Fin 4) (x : Lane) (s : State) : (setLane l x s).slotTable = s.slotTable := rfl
@[simp] theorem setLane_channels (l : Fin 4) (x : Lane) (s : State) : (setLane l x s).channels = s.channels := rfl
@[simp] theorem setLane_outstanding (l : Fin 4) (x : Lane) (s : State) :
    (setLane l x s).outstanding = s.outstanding := rfl
@[simp] theorem setLane_laneTable (l : Fin 4) (x : Lane) (s : State) : (setLane l x s).laneTable = s.laneTable := rfl
@[simp] theorem setLane_lanes (l : Fin 4) (x : Lane) (s : State) : (setLane l x s).lanes = s.lanes.set l x := rfl
@[simp] theorem setLane_counters (l : Fin 4) (x : Lane) (s : State) : (setLane l x s).counters = s.counters := rfl
@[simp] theorem setLane_mgmtQueue (l : Fin 4) (x : Lane) (s : State) : (setLane l x s).mgmtQueue = s.mgmtQueue := rfl
@[simp] theorem setLane_mgmt (l : Fin 4) (x : Lane) (s : State) : (setLane l x s).mgmt = s.mgmt := rfl
@[simp] theorem setLane_dump (l : Fin 4) (x : Lane) (s : State) : (setLane l x s).dump = s.dump := rfl
@[simp] theorem setLane_ret (l : Fin 4) (x : Lane) (s : State) : (setLane l x s).ret = s.ret := rfl
@[simp] theorem setLane_notices (l : Fin 4) (x : Lane) (s : State) : (setLane l x s).notices = s.notices := rfl
@[simp] theorem setLane_noticeMask (l : Fin 4) (x : Lane) (s : State) : (setLane l x s).noticeMask = s.noticeMask := rfl
@[simp] theorem setLane_resumes (l : Fin 4) (x : Lane) (s : State) : (setLane l x s).resumes = s.resumes := rfl
@[simp] theorem setLane_pending (l : Fin 4) (x : Lane) (s : State) : (setLane l x s).pending = s.pending := rfl

/-! ### setChannel -/

@[simp] theorem setChannel_resetHeld (t : Fin 96) (x : Channel) (s : State) :
    (setChannel t x s).resetHeld = s.resetHeld := rfl
@[simp] theorem setChannel_portTable (t : Fin 96) (x : Channel) (s : State) :
    (setChannel t x s).portTable = s.portTable := rfl
@[simp] theorem setChannel_ports (t : Fin 96) (x : Channel) (s : State) : (setChannel t x s).ports = s.ports := rfl
@[simp] theorem setChannel_sourceTable (t : Fin 96) (x : Channel) (s : State) :
    (setChannel t x s).sourceTable = s.sourceTable := rfl
@[simp] theorem setChannel_latches (t : Fin 96) (x : Channel) (s : State) :
    (setChannel t x s).latches = s.latches := rfl
@[simp] theorem setChannel_history (t : Fin 96) (x : Channel) (s : State) :
    (setChannel t x s).history = s.history := rfl
@[simp] theorem setChannel_pushPos (t : Fin 96) (x : Channel) (s : State) :
    (setChannel t x s).pushPos = s.pushPos := rfl
@[simp] theorem setChannel_running (t : Fin 96) (x : Channel) (s : State) :
    (setChannel t x s).running = s.running := rfl
@[simp] theorem setChannel_period (t : Fin 96) (x : Channel) (s : State) : (setChannel t x s).period = s.period := rfl
@[simp] theorem setChannel_timer (t : Fin 96) (x : Channel) (s : State) : (setChannel t x s).timer = s.timer := rfl
@[simp] theorem setChannel_seq (t : Fin 96) (x : Channel) (s : State) : (setChannel t x s).seq = s.seq := rfl
@[simp] theorem setChannel_pass (t : Fin 96) (x : Channel) (s : State) : (setChannel t x s).pass = s.pass := rfl
@[simp] theorem setChannel_pathTable (t : Fin 96) (x : Channel) (s : State) :
    (setChannel t x s).pathTable = s.pathTable := rfl
@[simp] theorem setChannel_pathPending (t : Fin 96) (x : Channel) (s : State) :
    (setChannel t x s).pathPending = s.pathPending := rfl
@[simp] theorem setChannel_taps (t : Fin 96) (x : Channel) (s : State) : (setChannel t x s).taps = s.taps := rfl
@[simp] theorem setChannel_bankE (t : Fin 96) (x : Channel) (s : State) : (setChannel t x s).bankE = s.bankE := rfl
@[simp] theorem setChannel_bankO (t : Fin 96) (x : Channel) (s : State) : (setChannel t x s).bankO = s.bankO := rfl
@[simp] theorem setChannel_parityFlags (t : Fin 96) (x : Channel) (s : State) :
    (setChannel t x s).parityFlags = s.parityFlags := rfl
@[simp] theorem setChannel_reports (t : Fin 96) (x : Channel) (s : State) :
    (setChannel t x s).reports = s.reports := rfl
@[simp] theorem setChannel_engine (t : Fin 96) (x : Channel) (s : State) : (setChannel t x s).engine = s.engine := rfl
@[simp] theorem setChannel_gain (t : Fin 96) (x : Channel) (s : State) : (setChannel t x s).gain = s.gain := rfl
@[simp] theorem setChannel_slotTable (t : Fin 96) (x : Channel) (s : State) :
    (setChannel t x s).slotTable = s.slotTable := rfl
@[simp] theorem setChannel_channels (t : Fin 96) (x : Channel) (s : State) :
    (setChannel t x s).channels = s.channels.set t x := rfl
@[simp] theorem setChannel_outstanding (t : Fin 96) (x : Channel) (s : State) :
    (setChannel t x s).outstanding = s.outstanding := rfl
@[simp] theorem setChannel_laneTable (t : Fin 96) (x : Channel) (s : State) :
    (setChannel t x s).laneTable = s.laneTable := rfl
@[simp] theorem setChannel_lanes (t : Fin 96) (x : Channel) (s : State) : (setChannel t x s).lanes = s.lanes := rfl
@[simp] theorem setChannel_counters (t : Fin 96) (x : Channel) (s : State) :
    (setChannel t x s).counters = s.counters := rfl
@[simp] theorem setChannel_mgmtQueue (t : Fin 96) (x : Channel) (s : State) :
    (setChannel t x s).mgmtQueue = s.mgmtQueue := rfl
@[simp] theorem setChannel_mgmt (t : Fin 96) (x : Channel) (s : State) : (setChannel t x s).mgmt = s.mgmt := rfl
@[simp] theorem setChannel_dump (t : Fin 96) (x : Channel) (s : State) : (setChannel t x s).dump = s.dump := rfl
@[simp] theorem setChannel_ret (t : Fin 96) (x : Channel) (s : State) : (setChannel t x s).ret = s.ret := rfl
@[simp] theorem setChannel_notices (t : Fin 96) (x : Channel) (s : State) :
    (setChannel t x s).notices = s.notices := rfl
@[simp] theorem setChannel_noticeMask (t : Fin 96) (x : Channel) (s : State) :
    (setChannel t x s).noticeMask = s.noticeMask := rfl
@[simp] theorem setChannel_resumes (t : Fin 96) (x : Channel) (s : State) :
    (setChannel t x s).resumes = s.resumes := rfl
@[simp] theorem setChannel_pending (t : Fin 96) (x : Channel) (s : State) :
    (setChannel t x s).pending = s.pending := rfl

/-! ### setOutstanding -/

@[simp] theorem setOutstanding_resetHeld (t : Fin 96) (x : Option OutRecord) (s : State) :
    (setOutstanding t x s).resetHeld = s.resetHeld := rfl
@[simp] theorem setOutstanding_portTable (t : Fin 96) (x : Option OutRecord) (s : State) :
    (setOutstanding t x s).portTable = s.portTable := rfl
@[simp] theorem setOutstanding_ports (t : Fin 96) (x : Option OutRecord) (s : State) :
    (setOutstanding t x s).ports = s.ports := rfl
@[simp] theorem setOutstanding_sourceTable (t : Fin 96) (x : Option OutRecord) (s : State) :
    (setOutstanding t x s).sourceTable = s.sourceTable := rfl
@[simp] theorem setOutstanding_latches (t : Fin 96) (x : Option OutRecord) (s : State) :
    (setOutstanding t x s).latches = s.latches := rfl
@[simp] theorem setOutstanding_history (t : Fin 96) (x : Option OutRecord) (s : State) :
    (setOutstanding t x s).history = s.history := rfl
@[simp] theorem setOutstanding_pushPos (t : Fin 96) (x : Option OutRecord) (s : State) :
    (setOutstanding t x s).pushPos = s.pushPos := rfl
@[simp] theorem setOutstanding_running (t : Fin 96) (x : Option OutRecord) (s : State) :
    (setOutstanding t x s).running = s.running := rfl
@[simp] theorem setOutstanding_period (t : Fin 96) (x : Option OutRecord) (s : State) :
    (setOutstanding t x s).period = s.period := rfl
@[simp] theorem setOutstanding_timer (t : Fin 96) (x : Option OutRecord) (s : State) :
    (setOutstanding t x s).timer = s.timer := rfl
@[simp] theorem setOutstanding_seq (t : Fin 96) (x : Option OutRecord) (s : State) :
    (setOutstanding t x s).seq = s.seq := rfl
@[simp] theorem setOutstanding_pass (t : Fin 96) (x : Option OutRecord) (s : State) :
    (setOutstanding t x s).pass = s.pass := rfl
@[simp] theorem setOutstanding_pathTable (t : Fin 96) (x : Option OutRecord) (s : State) :
    (setOutstanding t x s).pathTable = s.pathTable := rfl
@[simp] theorem setOutstanding_pathPending (t : Fin 96) (x : Option OutRecord) (s : State) :
    (setOutstanding t x s).pathPending = s.pathPending := rfl
@[simp] theorem setOutstanding_taps (t : Fin 96) (x : Option OutRecord) (s : State) :
    (setOutstanding t x s).taps = s.taps := rfl
@[simp] theorem setOutstanding_bankE (t : Fin 96) (x : Option OutRecord) (s : State) :
    (setOutstanding t x s).bankE = s.bankE := rfl
@[simp] theorem setOutstanding_bankO (t : Fin 96) (x : Option OutRecord) (s : State) :
    (setOutstanding t x s).bankO = s.bankO := rfl
@[simp] theorem setOutstanding_parityFlags (t : Fin 96) (x : Option OutRecord) (s : State) :
    (setOutstanding t x s).parityFlags = s.parityFlags := rfl
@[simp] theorem setOutstanding_reports (t : Fin 96) (x : Option OutRecord) (s : State) :
    (setOutstanding t x s).reports = s.reports := rfl
@[simp] theorem setOutstanding_engine (t : Fin 96) (x : Option OutRecord) (s : State) :
    (setOutstanding t x s).engine = s.engine := rfl
@[simp] theorem setOutstanding_gain (t : Fin 96) (x : Option OutRecord) (s : State) :
    (setOutstanding t x s).gain = s.gain := rfl
@[simp] theorem setOutstanding_slotTable (t : Fin 96) (x : Option OutRecord) (s : State) :
    (setOutstanding t x s).slotTable = s.slotTable := rfl
@[simp] theorem setOutstanding_channels (t : Fin 96) (x : Option OutRecord) (s : State) :
    (setOutstanding t x s).channels = s.channels := rfl
@[simp] theorem setOutstanding_outstanding (t : Fin 96) (x : Option OutRecord) (s : State) :
    (setOutstanding t x s).outstanding = s.outstanding.set t x := rfl
@[simp] theorem setOutstanding_laneTable (t : Fin 96) (x : Option OutRecord) (s : State) :
    (setOutstanding t x s).laneTable = s.laneTable := rfl
@[simp] theorem setOutstanding_lanes (t : Fin 96) (x : Option OutRecord) (s : State) :
    (setOutstanding t x s).lanes = s.lanes := rfl
@[simp] theorem setOutstanding_counters (t : Fin 96) (x : Option OutRecord) (s : State) :
    (setOutstanding t x s).counters = s.counters := rfl
@[simp] theorem setOutstanding_mgmtQueue (t : Fin 96) (x : Option OutRecord) (s : State) :
    (setOutstanding t x s).mgmtQueue = s.mgmtQueue := rfl
@[simp] theorem setOutstanding_mgmt (t : Fin 96) (x : Option OutRecord) (s : State) :
    (setOutstanding t x s).mgmt = s.mgmt := rfl
@[simp] theorem setOutstanding_dump (t : Fin 96) (x : Option OutRecord) (s : State) :
    (setOutstanding t x s).dump = s.dump := rfl
@[simp] theorem setOutstanding_ret (t : Fin 96) (x : Option OutRecord) (s : State) :
    (setOutstanding t x s).ret = s.ret := rfl
@[simp] theorem setOutstanding_notices (t : Fin 96) (x : Option OutRecord) (s : State) :
    (setOutstanding t x s).notices = s.notices := rfl
@[simp] theorem setOutstanding_noticeMask (t : Fin 96) (x : Option OutRecord) (s : State) :
    (setOutstanding t x s).noticeMask = s.noticeMask := rfl
@[simp] theorem setOutstanding_resumes (t : Fin 96) (x : Option OutRecord) (s : State) :
    (setOutstanding t x s).resumes = s.resumes := rfl
@[simp] theorem setOutstanding_pending (t : Fin 96) (x : Option OutRecord) (s : State) :
    (setOutstanding t x s).pending = s.pending := rfl

/-! ### setPhase -/

@[simp] theorem setPhase_resetHeld (f : MgmtFrame) (x : Phase) (s : State) :
    (setPhase f x s).resetHeld = s.resetHeld := rfl
@[simp] theorem setPhase_portTable (f : MgmtFrame) (x : Phase) (s : State) :
    (setPhase f x s).portTable = s.portTable := rfl
@[simp] theorem setPhase_ports (f : MgmtFrame) (x : Phase) (s : State) : (setPhase f x s).ports = s.ports := rfl
@[simp] theorem setPhase_sourceTable (f : MgmtFrame) (x : Phase) (s : State) :
    (setPhase f x s).sourceTable = s.sourceTable := rfl
@[simp] theorem setPhase_latches (f : MgmtFrame) (x : Phase) (s : State) : (setPhase f x s).latches = s.latches := rfl
@[simp] theorem setPhase_history (f : MgmtFrame) (x : Phase) (s : State) : (setPhase f x s).history = s.history := rfl
@[simp] theorem setPhase_pushPos (f : MgmtFrame) (x : Phase) (s : State) : (setPhase f x s).pushPos = s.pushPos := rfl
@[simp] theorem setPhase_running (f : MgmtFrame) (x : Phase) (s : State) : (setPhase f x s).running = s.running := rfl
@[simp] theorem setPhase_period (f : MgmtFrame) (x : Phase) (s : State) : (setPhase f x s).period = s.period := rfl
@[simp] theorem setPhase_timer (f : MgmtFrame) (x : Phase) (s : State) : (setPhase f x s).timer = s.timer := rfl
@[simp] theorem setPhase_seq (f : MgmtFrame) (x : Phase) (s : State) : (setPhase f x s).seq = s.seq := rfl
@[simp] theorem setPhase_pass (f : MgmtFrame) (x : Phase) (s : State) : (setPhase f x s).pass = s.pass := rfl
@[simp] theorem setPhase_pathTable (f : MgmtFrame) (x : Phase) (s : State) :
    (setPhase f x s).pathTable = s.pathTable := rfl
@[simp] theorem setPhase_pathPending (f : MgmtFrame) (x : Phase) (s : State) :
    (setPhase f x s).pathPending = s.pathPending := rfl
@[simp] theorem setPhase_taps (f : MgmtFrame) (x : Phase) (s : State) : (setPhase f x s).taps = s.taps := rfl
@[simp] theorem setPhase_bankE (f : MgmtFrame) (x : Phase) (s : State) : (setPhase f x s).bankE = s.bankE := rfl
@[simp] theorem setPhase_bankO (f : MgmtFrame) (x : Phase) (s : State) : (setPhase f x s).bankO = s.bankO := rfl
@[simp] theorem setPhase_parityFlags (f : MgmtFrame) (x : Phase) (s : State) :
    (setPhase f x s).parityFlags = s.parityFlags := rfl
@[simp] theorem setPhase_reports (f : MgmtFrame) (x : Phase) (s : State) : (setPhase f x s).reports = s.reports := rfl
@[simp] theorem setPhase_engine (f : MgmtFrame) (x : Phase) (s : State) : (setPhase f x s).engine = s.engine := rfl
@[simp] theorem setPhase_gain (f : MgmtFrame) (x : Phase) (s : State) : (setPhase f x s).gain = s.gain := rfl
@[simp] theorem setPhase_slotTable (f : MgmtFrame) (x : Phase) (s : State) :
    (setPhase f x s).slotTable = s.slotTable := rfl
@[simp] theorem setPhase_channels (f : MgmtFrame) (x : Phase) (s : State) :
    (setPhase f x s).channels = s.channels := rfl
@[simp] theorem setPhase_outstanding (f : MgmtFrame) (x : Phase) (s : State) :
    (setPhase f x s).outstanding = s.outstanding := rfl
@[simp] theorem setPhase_laneTable (f : MgmtFrame) (x : Phase) (s : State) :
    (setPhase f x s).laneTable = s.laneTable := rfl
@[simp] theorem setPhase_lanes (f : MgmtFrame) (x : Phase) (s : State) : (setPhase f x s).lanes = s.lanes := rfl
@[simp] theorem setPhase_counters (f : MgmtFrame) (x : Phase) (s : State) :
    (setPhase f x s).counters = s.counters := rfl
@[simp] theorem setPhase_mgmtQueue (f : MgmtFrame) (x : Phase) (s : State) :
    (setPhase f x s).mgmtQueue = s.mgmtQueue := rfl
@[simp] theorem setPhase_mgmt (f : MgmtFrame) (x : Phase) (s : State) : (setPhase f x s).mgmt = .executing f x := rfl
@[simp] theorem setPhase_dump (f : MgmtFrame) (x : Phase) (s : State) : (setPhase f x s).dump = s.dump := rfl
@[simp] theorem setPhase_ret (f : MgmtFrame) (x : Phase) (s : State) : (setPhase f x s).ret = s.ret := rfl
@[simp] theorem setPhase_notices (f : MgmtFrame) (x : Phase) (s : State) : (setPhase f x s).notices = s.notices := rfl
@[simp] theorem setPhase_noticeMask (f : MgmtFrame) (x : Phase) (s : State) :
    (setPhase f x s).noticeMask = s.noticeMask := rfl
@[simp] theorem setPhase_resumes (f : MgmtFrame) (x : Phase) (s : State) : (setPhase f x s).resumes = s.resumes := rfl
@[simp] theorem setPhase_pending (f : MgmtFrame) (x : Phase) (s : State) : (setPhase f x s).pending = s.pending := rfl

/-! ### addElapsed -/

@[simp] theorem addElapsed_resetHeld (n : Nat) (s : State) : (addElapsed n s).resetHeld = s.resetHeld := rfl
@[simp] theorem addElapsed_portTable (n : Nat) (s : State) : (addElapsed n s).portTable = s.portTable := rfl
@[simp] theorem addElapsed_ports (n : Nat) (s : State) : (addElapsed n s).ports = s.ports := rfl
@[simp] theorem addElapsed_sourceTable (n : Nat) (s : State) : (addElapsed n s).sourceTable = s.sourceTable := rfl
@[simp] theorem addElapsed_latches (n : Nat) (s : State) : (addElapsed n s).latches = s.latches := rfl
@[simp] theorem addElapsed_history (n : Nat) (s : State) : (addElapsed n s).history = s.history := rfl
@[simp] theorem addElapsed_pushPos (n : Nat) (s : State) : (addElapsed n s).pushPos = s.pushPos := rfl
@[simp] theorem addElapsed_running (n : Nat) (s : State) : (addElapsed n s).running = s.running := rfl
@[simp] theorem addElapsed_period (n : Nat) (s : State) : (addElapsed n s).period = s.period := rfl
@[simp] theorem addElapsed_timer (n : Nat) (s : State) : (addElapsed n s).timer = s.timer := rfl
@[simp] theorem addElapsed_seq (n : Nat) (s : State) : (addElapsed n s).seq = s.seq := rfl
@[simp] theorem addElapsed_pass (n : Nat) (s : State) :
    (addElapsed n s).pass = { s.pass with elapsedNs := s.pass.elapsedNs + n } := rfl
@[simp] theorem addElapsed_pathTable (n : Nat) (s : State) : (addElapsed n s).pathTable = s.pathTable := rfl
@[simp] theorem addElapsed_pathPending (n : Nat) (s : State) : (addElapsed n s).pathPending = s.pathPending := rfl
@[simp] theorem addElapsed_taps (n : Nat) (s : State) : (addElapsed n s).taps = s.taps := rfl
@[simp] theorem addElapsed_bankE (n : Nat) (s : State) : (addElapsed n s).bankE = s.bankE := rfl
@[simp] theorem addElapsed_bankO (n : Nat) (s : State) : (addElapsed n s).bankO = s.bankO := rfl
@[simp] theorem addElapsed_parityFlags (n : Nat) (s : State) : (addElapsed n s).parityFlags = s.parityFlags := rfl
@[simp] theorem addElapsed_reports (n : Nat) (s : State) : (addElapsed n s).reports = s.reports := rfl
@[simp] theorem addElapsed_engine (n : Nat) (s : State) : (addElapsed n s).engine = s.engine := rfl
@[simp] theorem addElapsed_gain (n : Nat) (s : State) : (addElapsed n s).gain = s.gain := rfl
@[simp] theorem addElapsed_slotTable (n : Nat) (s : State) : (addElapsed n s).slotTable = s.slotTable := rfl
@[simp] theorem addElapsed_channels (n : Nat) (s : State) : (addElapsed n s).channels = s.channels := rfl
@[simp] theorem addElapsed_outstanding (n : Nat) (s : State) : (addElapsed n s).outstanding = s.outstanding := rfl
@[simp] theorem addElapsed_laneTable (n : Nat) (s : State) : (addElapsed n s).laneTable = s.laneTable := rfl
@[simp] theorem addElapsed_lanes (n : Nat) (s : State) : (addElapsed n s).lanes = s.lanes := rfl
@[simp] theorem addElapsed_counters (n : Nat) (s : State) : (addElapsed n s).counters = s.counters := rfl
@[simp] theorem addElapsed_mgmtQueue (n : Nat) (s : State) : (addElapsed n s).mgmtQueue = s.mgmtQueue := rfl
@[simp] theorem addElapsed_mgmt (n : Nat) (s : State) : (addElapsed n s).mgmt = s.mgmt := rfl
@[simp] theorem addElapsed_dump (n : Nat) (s : State) : (addElapsed n s).dump = s.dump := rfl
@[simp] theorem addElapsed_ret (n : Nat) (s : State) : (addElapsed n s).ret = s.ret := rfl
@[simp] theorem addElapsed_notices (n : Nat) (s : State) : (addElapsed n s).notices = s.notices := rfl
@[simp] theorem addElapsed_noticeMask (n : Nat) (s : State) : (addElapsed n s).noticeMask = s.noticeMask := rfl
@[simp] theorem addElapsed_resumes (n : Nat) (s : State) : (addElapsed n s).resumes = s.resumes := rfl
@[simp] theorem addElapsed_pending (n : Nat) (s : State) : (addElapsed n s).pending = s.pending := rfl

/-! ### applyPending -/

@[simp] theorem applyPending_resetHeld (s : State) : (applyPending s).resetHeld = s.resetHeld := rfl
@[simp] theorem applyPending_portTable (s : State) : (applyPending s).portTable = s.portTable := rfl
@[simp] theorem applyPending_ports (s : State) : (applyPending s).ports = s.ports := rfl
@[simp] theorem applyPending_sourceTable (s : State) : (applyPending s).sourceTable = s.sourceTable := rfl
@[simp] theorem applyPending_latches (s : State) : (applyPending s).latches = s.latches := rfl
@[simp] theorem applyPending_history (s : State) : (applyPending s).history = s.history := rfl
@[simp] theorem applyPending_pushPos (s : State) : (applyPending s).pushPos = s.pushPos := rfl
@[simp] theorem applyPending_running (s : State) : (applyPending s).running = s.running := rfl
@[simp] theorem applyPending_period (s : State) : (applyPending s).period = s.period := rfl
@[simp] theorem applyPending_timer (s : State) : (applyPending s).timer = s.timer := rfl
@[simp] theorem applyPending_seq (s : State) : (applyPending s).seq = s.seq := rfl
@[simp] theorem applyPending_pass (s : State) : (applyPending s).pass = s.pass := rfl
@[simp] theorem applyPending_pathTable (s : State) : (applyPending s).pathTable = projected s := rfl
@[simp] theorem applyPending_pathPending (s : State) : (applyPending s).pathPending = [] := rfl
@[simp] theorem applyPending_taps (s : State) : (applyPending s).taps = s.taps := rfl
@[simp] theorem applyPending_bankE (s : State) : (applyPending s).bankE = s.bankE := rfl
@[simp] theorem applyPending_bankO (s : State) : (applyPending s).bankO = s.bankO := rfl
@[simp] theorem applyPending_parityFlags (s : State) : (applyPending s).parityFlags = s.parityFlags := rfl
@[simp] theorem applyPending_reports (s : State) : (applyPending s).reports = s.reports := rfl
@[simp] theorem applyPending_engine (s : State) : (applyPending s).engine = s.engine := rfl
@[simp] theorem applyPending_gain (s : State) : (applyPending s).gain = s.gain := rfl
@[simp] theorem applyPending_slotTable (s : State) : (applyPending s).slotTable = s.slotTable := rfl
@[simp] theorem applyPending_channels (s : State) : (applyPending s).channels = s.channels := rfl
@[simp] theorem applyPending_outstanding (s : State) : (applyPending s).outstanding = s.outstanding := rfl
@[simp] theorem applyPending_laneTable (s : State) : (applyPending s).laneTable = s.laneTable := rfl
@[simp] theorem applyPending_lanes (s : State) : (applyPending s).lanes = s.lanes := rfl
@[simp] theorem applyPending_counters (s : State) : (applyPending s).counters = s.counters := rfl
@[simp] theorem applyPending_mgmtQueue (s : State) : (applyPending s).mgmtQueue = s.mgmtQueue := rfl
@[simp] theorem applyPending_mgmt (s : State) : (applyPending s).mgmt = s.mgmt := rfl
@[simp] theorem applyPending_dump (s : State) : (applyPending s).dump = s.dump := rfl
@[simp] theorem applyPending_ret (s : State) : (applyPending s).ret = s.ret := rfl
@[simp] theorem applyPending_notices (s : State) : (applyPending s).notices = s.notices := rfl
@[simp] theorem applyPending_noticeMask (s : State) : (applyPending s).noticeMask = s.noticeMask := rfl
@[simp] theorem applyPending_resumes (s : State) : (applyPending s).resumes = s.resumes := rfl
@[simp] theorem applyPending_pending (s : State) : (applyPending s).pending = s.pending := rfl

/-! ### clearHistory -/

@[simp] theorem clearHistory_resetHeld (s : State) : (clearHistory s).resetHeld = s.resetHeld := rfl
@[simp] theorem clearHistory_portTable (s : State) : (clearHistory s).portTable = s.portTable := rfl
@[simp] theorem clearHistory_ports (s : State) : (clearHistory s).ports = s.ports := rfl
@[simp] theorem clearHistory_sourceTable (s : State) : (clearHistory s).sourceTable = s.sourceTable := rfl
@[simp] theorem clearHistory_latches (s : State) : (clearHistory s).latches = s.latches := rfl
@[simp] theorem clearHistory_history (s : State) : (clearHistory s).history = [] := rfl
@[simp] theorem clearHistory_pushPos (s : State) : (clearHistory s).pushPos = 0 := rfl
@[simp] theorem clearHistory_running (s : State) : (clearHistory s).running = s.running := rfl
@[simp] theorem clearHistory_period (s : State) : (clearHistory s).period = s.period := rfl
@[simp] theorem clearHistory_timer (s : State) : (clearHistory s).timer = s.timer := rfl
@[simp] theorem clearHistory_seq (s : State) : (clearHistory s).seq = 0 := rfl
@[simp] theorem clearHistory_pass (s : State) : (clearHistory s).pass = s.pass := rfl
@[simp] theorem clearHistory_pathTable (s : State) : (clearHistory s).pathTable = s.pathTable := rfl
@[simp] theorem clearHistory_pathPending (s : State) : (clearHistory s).pathPending = s.pathPending := rfl
@[simp] theorem clearHistory_taps (s : State) : (clearHistory s).taps = s.taps := rfl
@[simp] theorem clearHistory_bankE (s : State) : (clearHistory s).bankE = s.bankE := rfl
@[simp] theorem clearHistory_bankO (s : State) : (clearHistory s).bankO = s.bankO := rfl
@[simp] theorem clearHistory_parityFlags (s : State) : (clearHistory s).parityFlags = s.parityFlags := rfl
@[simp] theorem clearHistory_reports (s : State) : (clearHistory s).reports = s.reports := rfl
@[simp] theorem clearHistory_engine (s : State) : (clearHistory s).engine = s.engine := rfl
@[simp] theorem clearHistory_gain (s : State) : (clearHistory s).gain = s.gain := rfl
@[simp] theorem clearHistory_slotTable (s : State) : (clearHistory s).slotTable = s.slotTable := rfl
@[simp] theorem clearHistory_channels (s : State) : (clearHistory s).channels = s.channels := rfl
@[simp] theorem clearHistory_outstanding (s : State) : (clearHistory s).outstanding = s.outstanding := rfl
@[simp] theorem clearHistory_laneTable (s : State) : (clearHistory s).laneTable = s.laneTable := rfl
@[simp] theorem clearHistory_lanes (s : State) : (clearHistory s).lanes = s.lanes := rfl
@[simp] theorem clearHistory_counters (s : State) : (clearHistory s).counters = s.counters := rfl
@[simp] theorem clearHistory_mgmtQueue (s : State) : (clearHistory s).mgmtQueue = s.mgmtQueue := rfl
@[simp] theorem clearHistory_mgmt (s : State) : (clearHistory s).mgmt = s.mgmt := rfl
@[simp] theorem clearHistory_dump (s : State) : (clearHistory s).dump = s.dump := rfl
@[simp] theorem clearHistory_ret (s : State) : (clearHistory s).ret = s.ret := rfl
@[simp] theorem clearHistory_notices (s : State) : (clearHistory s).notices = s.notices := rfl
@[simp] theorem clearHistory_noticeMask (s : State) : (clearHistory s).noticeMask = s.noticeMask := rfl
@[simp] theorem clearHistory_resumes (s : State) : (clearHistory s).resumes = s.resumes := rfl
@[simp] theorem clearHistory_pending (s : State) : (clearHistory s).pending = s.pending := rfl

/-! ### Reading back an entry, and a second update of the same one

Indices here are of type Fin; a proof that uses these keeps simp from turning them into numbers
(`simp [-Fin.getElem_fin]`). -/

@[simp] theorem vector_set_get {α : Type} {n : Nat} (v : Vector α n) (i : Fin n) (x : α) : (v.set i x)[i] = x := by
  simp
theorem vector_set_get_ne {α : Type} {n : Nat} (v : Vector α n) (i j : Fin n) (x : α) (h : j ≠ i) :
    (v.set i x)[j] = v[j] := by
  have hne : i.1 ≠ j.1 := fun e => h (Fin.ext e.symm)
  simp [Vector.getElem_set_ne _ _ hne]

@[simp] theorem setPort_get (p : Fin 8) (x : Port) (s : State) : (setPort p x s).ports[p] = x := by
  simp [setPort]
theorem setPort_get_ne (p i : Fin 8) (x : Port) (s : State) (h : i ≠ p) :
    (setPort p x s).ports[i] = s.ports[i] := by
  have hne : p.1 ≠ i.1 := fun e => h (Fin.ext e.symm)
  simp [setPort, Vector.getElem_set_ne _ _ hne]
theorem setPort_self (p : Fin 8) (s : State) : setPort p s.ports[p] s = s := by
  simp [setPort]
@[simp] theorem setPort_setPort (p : Fin 8) (x y : Port) (s : State) :
    setPort p x (setPort p y s) = setPort p x s := by
  simp [setPort]

@[simp] theorem setLane_get (l : Fin 4) (x : Lane) (s : State) : (setLane l x s).lanes[l] = x := by
  simp [setLane]
theorem setLane_get_ne (l i : Fin 4) (x : Lane) (s : State) (h : i ≠ l) :
    (setLane l x s).lanes[i] = s.lanes[i] := by
  have hne : l.1 ≠ i.1 := fun e => h (Fin.ext e.symm)
  simp [setLane, Vector.getElem_set_ne _ _ hne]
theorem setLane_self (l : Fin 4) (s : State) : setLane l s.lanes[l] s = s := by
  simp [setLane]
@[simp] theorem setLane_setLane (l : Fin 4) (x y : Lane) (s : State) :
    setLane l x (setLane l y s) = setLane l x s := by
  simp [setLane]

@[simp] theorem setChannel_get (t : Fin 96) (x : Channel) (s : State) : (setChannel t x s).channels[t] = x := by
  simp [setChannel]
theorem setChannel_get_ne (t i : Fin 96) (x : Channel) (s : State) (h : i ≠ t) :
    (setChannel t x s).channels[i] = s.channels[i] := by
  have hne : t.1 ≠ i.1 := fun e => h (Fin.ext e.symm)
  simp [setChannel, Vector.getElem_set_ne _ _ hne]
theorem setChannel_self (t : Fin 96) (s : State) : setChannel t s.channels[t] s = s := by
  simp [setChannel]
@[simp] theorem setChannel_setChannel (t : Fin 96) (x y : Channel) (s : State) :
    setChannel t x (setChannel t y s) = setChannel t x s := by
  simp [setChannel]

@[simp] theorem setOutstanding_get (t : Fin 96) (x : Option OutRecord) (s : State) :
    (setOutstanding t x s).outstanding[t] = x := by
  simp [setOutstanding]
theorem setOutstanding_get_ne (t i : Fin 96) (x : Option OutRecord) (s : State) (h : i ≠ t) :
    (setOutstanding t x s).outstanding[i] = s.outstanding[i] := by
  have hne : t.1 ≠ i.1 := fun e => h (Fin.ext e.symm)
  simp [setOutstanding, Vector.getElem_set_ne _ _ hne]
theorem setOutstanding_self (t : Fin 96) (s : State) : setOutstanding t s.outstanding[t] s = s := by
  simp [setOutstanding]
@[simp] theorem setOutstanding_setOutstanding (t : Fin 96) (x y : Option OutRecord) (s : State) :
    setOutstanding t x (setOutstanding t y s) = setOutstanding t x s := by
  simp [setOutstanding]

/-! ### setBank -/

@[simp] theorem setBank_resetHeld (s : State) (b : BankId) (k : Bank) : (s.setBank b k).resetHeld = s.resetHeld := by
  cases b <;> rfl
@[simp] theorem setBank_portTable (s : State) (b : BankId) (k : Bank) : (s.setBank b k).portTable = s.portTable := by
  cases b <;> rfl
@[simp] theorem setBank_ports (s : State) (b : BankId) (k : Bank) : (s.setBank b k).ports = s.ports := by
  cases b <;> rfl
@[simp] theorem setBank_sourceTable (s : State) (b : BankId) (k : Bank) :
    (s.setBank b k).sourceTable = s.sourceTable := by
  cases b <;> rfl
@[simp] theorem setBank_latches (s : State) (b : BankId) (k : Bank) : (s.setBank b k).latches = s.latches := by
  cases b <;> rfl
@[simp] theorem setBank_history (s : State) (b : BankId) (k : Bank) : (s.setBank b k).history = s.history := by
  cases b <;> rfl
@[simp] theorem setBank_pushPos (s : State) (b : BankId) (k : Bank) : (s.setBank b k).pushPos = s.pushPos := by
  cases b <;> rfl
@[simp] theorem setBank_running (s : State) (b : BankId) (k : Bank) : (s.setBank b k).running = s.running := by
  cases b <;> rfl
@[simp] theorem setBank_period (s : State) (b : BankId) (k : Bank) : (s.setBank b k).period = s.period := by
  cases b <;> rfl
@[simp] theorem setBank_timer (s : State) (b : BankId) (k : Bank) : (s.setBank b k).timer = s.timer := by
  cases b <;> rfl
@[simp] theorem setBank_seq (s : State) (b : BankId) (k : Bank) : (s.setBank b k).seq = s.seq := by
  cases b <;> rfl
@[simp] theorem setBank_pass (s : State) (b : BankId) (k : Bank) : (s.setBank b k).pass = s.pass := by
  cases b <;> rfl
@[simp] theorem setBank_pathTable (s : State) (b : BankId) (k : Bank) : (s.setBank b k).pathTable = s.pathTable := by
  cases b <;> rfl
@[simp] theorem setBank_pathPending (s : State) (b : BankId) (k : Bank) :
    (s.setBank b k).pathPending = s.pathPending := by
  cases b <;> rfl
@[simp] theorem setBank_taps (s : State) (b : BankId) (k : Bank) : (s.setBank b k).taps = s.taps := by
  cases b <;> rfl
@[simp] theorem setBank_parityFlags (s : State) (b : BankId) (k : Bank) :
    (s.setBank b k).parityFlags = s.parityFlags := by
  cases b <;> rfl
@[simp] theorem setBank_reports (s : State) (b : BankId) (k : Bank) : (s.setBank b k).reports = s.reports := by
  cases b <;> rfl
@[simp] theorem setBank_engine (s : State) (b : BankId) (k : Bank) : (s.setBank b k).engine = s.engine := by
  cases b <;> rfl
@[simp] theorem setBank_gain (s : State) (b : BankId) (k : Bank) : (s.setBank b k).gain = s.gain := by
  cases b <;> rfl
@[simp] theorem setBank_slotTable (s : State) (b : BankId) (k : Bank) : (s.setBank b k).slotTable = s.slotTable := by
  cases b <;> rfl
@[simp] theorem setBank_channels (s : State) (b : BankId) (k : Bank) : (s.setBank b k).channels = s.channels := by
  cases b <;> rfl
@[simp] theorem setBank_outstanding (s : State) (b : BankId) (k : Bank) :
    (s.setBank b k).outstanding = s.outstanding := by
  cases b <;> rfl
@[simp] theorem setBank_laneTable (s : State) (b : BankId) (k : Bank) : (s.setBank b k).laneTable = s.laneTable := by
  cases b <;> rfl
@[simp] theorem setBank_lanes (s : State) (b : BankId) (k : Bank) : (s.setBank b k).lanes = s.lanes := by
  cases b <;> rfl
@[simp] theorem setBank_counters (s : State) (b : BankId) (k : Bank) : (s.setBank b k).counters = s.counters := by
  cases b <;> rfl
@[simp] theorem setBank_mgmtQueue (s : State) (b : BankId) (k : Bank) : (s.setBank b k).mgmtQueue = s.mgmtQueue := by
  cases b <;> rfl
@[simp] theorem setBank_mgmt (s : State) (b : BankId) (k : Bank) : (s.setBank b k).mgmt = s.mgmt := by
  cases b <;> rfl
@[simp] theorem setBank_dump (s : State) (b : BankId) (k : Bank) : (s.setBank b k).dump = s.dump := by
  cases b <;> rfl
@[simp] theorem setBank_ret (s : State) (b : BankId) (k : Bank) : (s.setBank b k).ret = s.ret := by
  cases b <;> rfl
@[simp] theorem setBank_notices (s : State) (b : BankId) (k : Bank) : (s.setBank b k).notices = s.notices := by
  cases b <;> rfl
@[simp] theorem setBank_noticeMask (s : State) (b : BankId) (k : Bank) : (s.setBank b k).noticeMask = s.noticeMask := by
  cases b <;> rfl
@[simp] theorem setBank_resumes (s : State) (b : BankId) (k : Bank) : (s.setBank b k).resumes = s.resumes := by
  cases b <;> rfl
@[simp] theorem setBank_pending (s : State) (b : BankId) (k : Bank) : (s.setBank b k).pending = s.pending := by
  cases b <;> rfl
@[simp] theorem bank_setBank (s : State) (b : BankId) (k : Bank) : (s.setBank b k).bank b = k := by
  cases b <;> rfl
theorem bank_setBank_ne (s : State) (b c : BankId) (k : Bank) (h : c ≠ b) : (s.setBank b k).bank c = s.bank c := by
  cases b <;> cases c <;> first | rfl | exact absurd rfl h

end Machine
end Sys2Proof
end

