-- ==== Sys2Proof/Laws/Ops.lean ====
section
/-! SUPPORT. What each shared operation can do: the frames of requests, raises, counts and parity checks. -/

namespace Sys2Proof
namespace Machine

/-! ### The two frames -/

theorem OnlyReturn.refl (s : State) : OnlyReturn s s := rfl

theorem OnlyReturn.trans {s t u : State} (h : OnlyReturn s t) (k : OnlyReturn t u) : OnlyReturn s u := by
  unfold OnlyReturn at *; rw [k, h]

theorem OnlyCounts.refl (s : State) : OnlyCounts s s := rfl

theorem OnlyCounts.trans {s t u : State} (h : OnlyCounts s t) (k : OnlyCounts t u) : OnlyCounts s u := by
  unfold OnlyCounts at *; rw [k, h]

theorem OnlyCounts.resetHeld {s t : State} (h : OnlyCounts s t) : t.resetHeld = s.resetHeld := by rw [h]
theorem OnlyCounts.portTable {s t : State} (h : OnlyCounts s t) : t.portTable = s.portTable := by rw [h]
theorem OnlyCounts.ports {s t : State} (h : OnlyCounts s t) : t.ports = s.ports := by rw [h]
theorem OnlyCounts.sourceTable {s t : State} (h : OnlyCounts s t) : t.sourceTable = s.sourceTable := by rw [h]
theorem OnlyCounts.latches {s t : State} (h : OnlyCounts s t) : t.latches = s.latches := by rw [h]
theorem OnlyCounts.history {s t : State} (h : OnlyCounts s t) : t.history = s.history := by rw [h]
theorem OnlyCounts.pushPos {s t : State} (h : OnlyCounts s t) : t.pushPos = s.pushPos := by rw [h]
theorem OnlyCounts.running {s t : State} (h : OnlyCounts s t) : t.running = s.running := by rw [h]
theorem OnlyCounts.period {s t : State} (h : OnlyCounts s t) : t.period = s.period := by rw [h]
theorem OnlyCounts.timer {s t : State} (h : OnlyCounts s t) : t.timer = s.timer := by rw [h]
theorem OnlyCounts.seq {s t : State} (h : OnlyCounts s t) : t.seq = s.seq := by rw [h]
theorem OnlyCounts.pass {s t : State} (h : OnlyCounts s t) : t.pass = s.pass := by rw [h]
theorem OnlyCounts.pathTable {s t : State} (h : OnlyCounts s t) : t.pathTable = s.pathTable := by rw [h]
theorem OnlyCounts.pathPending {s t : State} (h : OnlyCounts s t) : t.pathPending = s.pathPending := by rw [h]
theorem OnlyCounts.taps {s t : State} (h : OnlyCounts s t) : t.taps = s.taps := by rw [h]
theorem OnlyCounts.reports {s t : State} (h : OnlyCounts s t) : t.reports = s.reports := by rw [h]
theorem OnlyCounts.engine {s t : State} (h : OnlyCounts s t) : t.engine = s.engine := by rw [h]
theorem OnlyCounts.gain {s t : State} (h : OnlyCounts s t) : t.gain = s.gain := by rw [h]
theorem OnlyCounts.slotTable {s t : State} (h : OnlyCounts s t) : t.slotTable = s.slotTable := by rw [h]
theorem OnlyCounts.channels {s t : State} (h : OnlyCounts s t) : t.channels = s.channels := by rw [h]
theorem OnlyCounts.outstanding {s t : State} (h : OnlyCounts s t) : t.outstanding = s.outstanding := by rw [h]
theorem OnlyCounts.laneTable {s t : State} (h : OnlyCounts s t) : t.laneTable = s.laneTable := by rw [h]
theorem OnlyCounts.lanes {s t : State} (h : OnlyCounts s t) : t.lanes = s.lanes := by rw [h]
theorem OnlyCounts.mgmtQueue {s t : State} (h : OnlyCounts s t) : t.mgmtQueue = s.mgmtQueue := by rw [h]
theorem OnlyCounts.noticeMask {s t : State} (h : OnlyCounts s t) : t.noticeMask = s.noticeMask := by rw [h]
theorem OnlyCounts.resumes {s t : State} (h : OnlyCounts s t) : t.resumes = s.resumes := by rw [h]
theorem OnlyCounts.pending {s t : State} (h : OnlyCounts s t) : t.pending = s.pending := by rw [h]
theorem OnlyCounts.bankE {s t : State} (h : OnlyCounts s t) : t.bankE = s.bankE := by rw [h]
theorem OnlyCounts.bankO {s t : State} (h : OnlyCounts s t) : t.bankO = s.bankO := by rw [h]
theorem OnlyCounts.mgmt {s t : State} (h : OnlyCounts s t) : t.mgmt = s.mgmt := by rw [h]
theorem OnlyCounts.dump {s t : State} (h : OnlyCounts s t) : t.dump = s.dump := by rw [h]
theorem OnlyCounts.ret {s t : State} (h : OnlyCounts s t) : t.ret = s.ret := by rw [h]
theorem OnlyReturn.resetHeld {s t : State} (h : OnlyReturn s t) : t.resetHeld = s.resetHeld := by rw [h]
theorem OnlyReturn.portTable {s t : State} (h : OnlyReturn s t) : t.portTable = s.portTable := by rw [h]
theorem OnlyReturn.ports {s t : State} (h : OnlyReturn s t) : t.ports = s.ports := by rw [h]
theorem OnlyReturn.sourceTable {s t : State} (h : OnlyReturn s t) : t.sourceTable = s.sourceTable := by rw [h]
theorem OnlyReturn.latches {s t : State} (h : OnlyReturn s t) : t.latches = s.latches := by rw [h]
theorem OnlyReturn.history {s t : State} (h : OnlyReturn s t) : t.history = s.history := by rw [h]
theorem OnlyReturn.pushPos {s t : State} (h : OnlyReturn s t) : t.pushPos = s.pushPos := by rw [h]
theorem OnlyReturn.running {s t : State} (h : OnlyReturn s t) : t.running = s.running := by rw [h]
theorem OnlyReturn.period {s t : State} (h : OnlyReturn s t) : t.period = s.period := by rw [h]
theorem OnlyReturn.timer {s t : State} (h : OnlyReturn s t) : t.timer = s.timer := by rw [h]
theorem OnlyReturn.seq {s t : State} (h : OnlyReturn s t) : t.seq = s.seq := by rw [h]
theorem OnlyReturn.pass {s t : State} (h : OnlyReturn s t) : t.pass = s.pass := by rw [h]
theorem OnlyReturn.pathTable {s t : State} (h : OnlyReturn s t) : t.pathTable = s.pathTable := by rw [h]
theorem OnlyReturn.pathPending {s t : State} (h : OnlyReturn s t) : t.pathPending = s.pathPending := by rw [h]
theorem OnlyReturn.taps {s t : State} (h : OnlyReturn s t) : t.taps = s.taps := by rw [h]
theorem OnlyReturn.reports {s t : State} (h : OnlyReturn s t) : t.reports = s.reports := by rw [h]
theorem OnlyReturn.engine {s t : State} (h : OnlyReturn s t) : t.engine = s.engine := by rw [h]
theorem OnlyReturn.gain {s t : State} (h : OnlyReturn s t) : t.gain = s.gain := by rw [h]
theorem OnlyReturn.slotTable {s t : State} (h : OnlyReturn s t) : t.slotTable = s.slotTable := by rw [h]
theorem OnlyReturn.channels {s t : State} (h : OnlyReturn s t) : t.channels = s.channels := by rw [h]
theorem OnlyReturn.outstanding {s t : State} (h : OnlyReturn s t) : t.outstanding = s.outstanding := by rw [h]
theorem OnlyReturn.laneTable {s t : State} (h : OnlyReturn s t) : t.laneTable = s.laneTable := by rw [h]
theorem OnlyReturn.lanes {s t : State} (h : OnlyReturn s t) : t.lanes = s.lanes := by rw [h]
theorem OnlyReturn.mgmtQueue {s t : State} (h : OnlyReturn s t) : t.mgmtQueue = s.mgmtQueue := by rw [h]
theorem OnlyReturn.noticeMask {s t : State} (h : OnlyReturn s t) : t.noticeMask = s.noticeMask := by rw [h]
theorem OnlyReturn.resumes {s t : State} (h : OnlyReturn s t) : t.resumes = s.resumes := by rw [h]
theorem OnlyReturn.pending {s t : State} (h : OnlyReturn s t) : t.pending = s.pending := by rw [h]
theorem OnlyReturn.counters {s t : State} (h : OnlyReturn s t) : t.counters = s.counters := by rw [h]
theorem OnlyReturn.parityFlags {s t : State} (h : OnlyReturn s t) : t.parityFlags = s.parityFlags := by rw [h]

/-! ### The return (R165, R176, R177, R182) -/

theorem requestDumpRead_frame (s : State) :
    requestDumpRead s = { s with bankE := (requestDumpRead s).bankE, bankO := (requestDumpRead s).bankO } := by
  unfold requestDumpRead request
  generalize bankOf s.dump.next.1 = b
  cases b <;> (split <;> rfl)

theorem requestDumpRead_only (s : State) : OnlyReturn s (requestDumpRead s) := by
  rw [requestDumpRead_frame]; rfl

theorem placeDumpFrame_only (d : DumpFrame) (s : State) : OnlyReturn s (placeDumpFrame d s) := by
  unfold placeDumpFrame
  dsimp only
  split
  · rfl
  · exact OnlyReturn.trans (t := { s with ret := { s.ret with dumpPlace := some d }, dump :=
      { s.dump with state := .reading, next := s.dump.next + 1, held := none } }) rfl (requestDumpRead_only _)

theorem placeReply_only (r : Reply) (s : State) : OnlyReturn s (placeReply r s) := by
  unfold placeReply
  dsimp only
  split
  · exact OnlyReturn.trans (t := { s with ret := { s.ret with replyPlace := some r }, mgmt := .idle }) rfl
      (requestDumpRead_only _)
  · rfl

theorem returnTake_only (s : State) : OnlyReturn s (returnTake s) := by
  unfold returnTake
  split
  · rfl
  · rename_i r _ _
    dsimp only
    split
    · exact OnlyReturn.trans (t := { s with ret := { s.ret with line := some (.reply r), replyPlace := none } }) rfl
        (placeReply_only _ _)
    all_goals rfl
  · rfl
  · rename_i d _ _ _ _
    dsimp only
    split
    · exact OnlyReturn.trans (t := { s with ret := { s.ret with line := some (.dump d), dumpPlace := none } }) rfl
        (placeDumpFrame_only _ _)
    · rfl
  · rfl

theorem firstBad_eq_findIdx (ws : List StoredWord) :
    ∀ i, firstBad i ws = (ws.findIdx? (fun w => !w.good)).map (· + i) := by
  induction ws with
  | nil => intro i; rfl
  | cons w ws ih =>
    intro i
    by_cases h : w.good <;> simp [firstBad, List.findIdx?_cons, h, ih]
    cases List.findIdx? (fun w => !w.good) ws <;> simp [Nat.add_comm 1]

/-- The executions whose REPLY is ready are the ones `ReplyReady` names. -/
theorem readyReply_iff (s : State) (r : Reply) : readyReply s.mgmt = some r ↔ ∃ f, ReplyReady f r s := by
  unfold ReplyReady
  constructor
  · intro h
    unfold readyReply at h
    split at h
    · cases h; rename_i f hm; exact ⟨f, .inl hm⟩
    · rename_i f hm; refine ⟨f, .inr (.inl ⟨hm, ?_⟩)⟩; simp at h; rw [← h]; rfl
    · rename_i f a b hm
      refine ⟨f, .inr (.inr ⟨a, b, hm, ?_⟩)⟩
      simp at h; rw [← h]; simp [tapsReply, plainReply, statusReply, firstBad_eq_findIdx]
    · cases h
  · rintro ⟨f, h | ⟨h, rfl⟩ | ⟨a, b, h, rfl⟩⟩ <;> rw [h]
    · rfl
    · rfl
    · simp [readyReply, tapsReply, plainReply, statusReply, firstBad_eq_findIdx]

theorem placeReady_only (s : State) : OnlyReturn s (placeReady s) := by
  unfold placeReady
  split
  · split
    · exact placeReply_only _ _
    · rfl
  · rfl

theorem restartSettled_iff (s : State) : restartSettled s = true ↔ RestartSettled s := by
  unfold restartSettled RestartSettled
  cases s.engine <;> simp [and_assoc]

/-- While no RESTART is in execution, or its work goes on, the arbiter's choice is the whole of `returnChoose`. -/
theorem settleRestart_eq {s : State} (h : ∀ f, s.mgmt = .executing f .restarting → ¬ RestartSettled s) :
    settleRestart s = s := by
  unfold settleRestart
  split
  · rename_i f hm
    rw [if_neg (fun k => h f hm ((restartSettled_iff s).mp k))]
  · rfl

theorem settleRestart_only (s : State) : OnlyReturn s (settleRestart s) := by
  unfold settleRestart
  split
  · split <;> rfl
  · rfl

theorem returnChoose_only (s : State) : OnlyReturn s (returnChoose s) := by
  unfold returnChoose
  refine OnlyReturn.trans ?_ (settleRestart_only _)
  split
  · rfl
  · exact (placeReady_only s).trans (returnTake_only _)

/-- A command's outcome while RESET_N is high: its effect, and then the return arbiter's choice. -/
theorem live_awake {s t : State} (h : s.resetHeld = false) : live s t = .next (returnChoose t) := by
  simp [live, h]

/-- While RESET_N is low a command changes nothing. -/
theorem live_held {s t : State} (h : s.resetHeld = true) : live s t = .next s := by
  simp [live, h]

/-! ### Notices, counters and parity (R190, R184, R85) -/

theorem raise_frame (k : NoticeKind) (i : Nat) (s : State) :
    raise k i s = { s with notices := (raise k i s).notices } := by
  unfold raise; split <;> rfl

theorem raise_only (k : NoticeKind) (i : Nat) (s : State) : OnlyCounts s (raise k i s) := by
  rw [raise_frame]; rfl

theorem raiseEach_only (k : NoticeKind) (ts : List Nat) (s : State) : OnlyCounts s (raiseEach k ts s) := by
  induction ts generalizing s with
  | nil => exact OnlyCounts.refl s
  | cons t ts ih => exact (raise_only k t s).trans (ih _)

theorem incr_only (i : CounterId) (s : State) : OnlyCounts s (incr i s) := by
  unfold incr
  dsimp only
  split
  · rfl
  · split
    · refine OnlyCounts.trans (t := { s with counters := s.counters.write i (s.counters.read i + 1) }) rfl ?_
      exact raise_only _ _ _
    · rfl

theorem incrTimes_only (i : CounterId) (n : Nat) (s : State) : OnlyCounts s (incrTimes i n s) := by
  induction n generalizing s with
  | zero => exact OnlyCounts.refl s
  | succ n ih => exact (incr_only i s).trans (ih _)

theorem parityFail_only (b : ParityBank) (s : State) : OnlyCounts s (parityFail b s) := by
  unfold parityFail
  dsimp only
  refine (incr_only (.global b.counter) s).trans ?_
  exact OnlyCounts.trans
    (t := { incr (.global b.counter) s with parityFlags := (incr (.global b.counter) s).parityFlags.mark b }) rfl
    (raise_only _ _ _)

theorem checkParity_only (b : ParityBank) (ws : List StoredWord) (s : State) : OnlyCounts s (checkParity b ws s) := by
  induction ws generalizing s with
  | nil => exact OnlyCounts.refl s
  | cons w ws ih =>
    simp only [checkParity]
    split
    · exact ih s
    · exact (parityFail_only b s).trans (ih _)

/-- Words of good parity change nothing (R85). -/
theorem checkParity_good (b : ParityBank) (ws : List StoredWord) (s : State) (h : ws.all (·.good) = true) :
    checkParity b ws s = s := by
  induction ws generalizing s with
  | nil => rfl
  | cons w ws ih => simp only [List.all_cons, Bool.and_eq_true] at h; simp [checkParity, h.1, ih s h.2]

/-! ### What a count reads: it commutes with every update of another field -/

/-- The state t with the counters, the sticky parity flags and the notice list of s: what a count or a raise changes. -/
def State.withCountsOf (t s : State) : State :=
  { t with counters := s.counters, parityFlags := s.parityFlags, notices := s.notices }

theorem raise_over (k : NoticeKind) (i : Nat) (s t : State) (hm : t.noticeMask = s.noticeMask) :
    raise k i (t.withCountsOf s) = t.withCountsOf (raise k i s) := by
  have hm' : (t.withCountsOf s).noticeMask = s.noticeMask := hm
  by_cases hx : s.noticeMask[k.number] = true
  · have hx' : (t.withCountsOf s).noticeMask[k.number] = true := by rw [hm']; exact hx
    rw [raise, raise, if_pos hx', if_pos hx]; rfl
  · have hx' : ¬(t.withCountsOf s).noticeMask[k.number] = true := by rw [hm']; exact hx
    rw [raise, raise, if_neg hx', if_neg hx]

theorem incr_over (i : CounterId) (s t : State) (hm : t.noticeMask = s.noticeMask) :
    incr i (t.withCountsOf s) = t.withCountsOf (incr i s) := by
  unfold incr
  have hc : (t.withCountsOf s).counters = s.counters := rfl
  simp only [hc]
  split
  · rfl
  · split
    · exact raise_over _ _ { s with counters := s.counters.write i (s.counters.read i + 1) } t hm
    · rfl

/-! ### In particular, with the updates of one entry -/

theorem raise_setPort (k : NoticeKind) (i : Nat) (p : Fin 8) (x : Port) (s : State) :
    raise k i (setPort p x s) = setPort p x (raise k i s) := by
  have h := raise_only k i s
  refine (raise_over k i s (setPort p x s) rfl).trans ?_
  rw [h]; rfl

theorem incr_setPort (i : CounterId) (p : Fin 8) (x : Port) (s : State) :
    incr i (setPort p x s) = setPort p x (incr i s) := by
  have h := incr_only i s
  refine (incr_over i s (setPort p x s) rfl).trans ?_
  rw [h]; rfl

theorem raise_setLane (k : NoticeKind) (i : Nat) (l : Fin 4) (x : Lane) (s : State) :
    raise k i (setLane l x s) = setLane l x (raise k i s) := by
  have h := raise_only k i s
  refine (raise_over k i s (setLane l x s) rfl).trans ?_
  rw [h]; rfl

theorem incr_setLane (i : CounterId) (l : Fin 4) (x : Lane) (s : State) :
    incr i (setLane l x s) = setLane l x (incr i s) := by
  have h := incr_only i s
  refine (incr_over i s (setLane l x s) rfl).trans ?_
  rw [h]; rfl

theorem raise_setChannel (k : NoticeKind) (i : Nat) (t : Fin 96) (x : Channel) (s : State) :
    raise k i (setChannel t x s) = setChannel t x (raise k i s) := by
  have h := raise_only k i s
  refine (raise_over k i s (setChannel t x s) rfl).trans ?_
  rw [h]; rfl

theorem incr_setChannel (i : CounterId) (t : Fin 96) (x : Channel) (s : State) :
    incr i (setChannel t x s) = setChannel t x (incr i s) := by
  have h := incr_only i s
  refine (incr_over i s (setChannel t x s) rfl).trans ?_
  rw [h]; rfl

theorem raise_setOutstanding (k : NoticeKind) (i : Nat) (t : Fin 96) (x : Option OutRecord) (s : State) :
    raise k i (setOutstanding t x s) = setOutstanding t x (raise k i s) := by
  have h := raise_only k i s
  refine (raise_over k i s (setOutstanding t x s) rfl).trans ?_
  rw [h]; rfl

theorem incr_setOutstanding (i : CounterId) (t : Fin 96) (x : Option OutRecord) (s : State) :
    incr i (setOutstanding t x s) = setOutstanding t x (incr i s) := by
  have h := incr_only i s
  refine (incr_over i s (setOutstanding t x s) rfl).trans ?_
  rw [h]; rfl

/-! ### Field by field, for raise, incr, incrTimes, checkParity and the return arbiter -/

@[simp] theorem raise_resetHeld (k : NoticeKind) (i : Nat) (s : State) :
    (raise k i s).resetHeld = s.resetHeld := (raise_only k i s).resetHeld
@[simp] theorem raise_portTable (k : NoticeKind) (i : Nat) (s : State) :
    (raise k i s).portTable = s.portTable := (raise_only k i s).portTable
@[simp] theorem raise_ports (k : NoticeKind) (i : Nat) (s : State) :
    (raise k i s).ports = s.ports := (raise_only k i s).ports
@[simp] theorem raise_sourceTable (k : NoticeKind) (i : Nat) (s : State) :
    (raise k i s).sourceTable = s.sourceTable := (raise_only k i s).sourceTable
@[simp] theorem raise_latches (k : NoticeKind) (i : Nat) (s : State) :
    (raise k i s).latches = s.latches := (raise_only k i s).latches
@[simp] theorem raise_history (k : NoticeKind) (i : Nat) (s : State) :
    (raise k i s).history = s.history := (raise_only k i s).history
@[simp] theorem raise_pushPos (k : NoticeKind) (i : Nat) (s : State) :
    (raise k i s).pushPos = s.pushPos := (raise_only k i s).pushPos
@[simp] theorem raise_running (k : NoticeKind) (i : Nat) (s : State) :
    (raise k i s).running = s.running := (raise_only k i s).running
@[simp] theorem raise_period (k : NoticeKind) (i : Nat) (s : State) :
    (raise k i s).period = s.period := (raise_only k i s).period
@[simp] theorem raise_timer (k : NoticeKind) (i : Nat) (s : State) :
    (raise k i s).timer = s.timer := (raise_only k i s).timer
@[simp] theorem raise_seq (k : NoticeKind) (i : Nat) (s : State) : (raise k i s).seq = s.seq := (raise_only k i s).seq
@[simp] theorem raise_pass (k : NoticeKind) (i : Nat) (s : State) :
    (raise k i s).pass = s.pass := (raise_only k i s).pass
@[simp] theorem raise_pathTable (k : NoticeKind) (i : Nat) (s : State) :
    (raise k i s).pathTable = s.pathTable := (raise_only k i s).pathTable
@[simp] theorem raise_pathPending (k : NoticeKind) (i : Nat) (s : State) :
    (raise k i s).pathPending = s.pathPending := (raise_only k i s).pathPending
@[simp] theorem raise_taps (k : NoticeKind) (i : Nat) (s : State) :
    (raise k i s).taps = s.taps := (raise_only k i s).taps
@[simp] theorem raise_reports (k : NoticeKind) (i : Nat) (s : State) :
    (raise k i s).reports = s.reports := (raise_only k i s).reports
@[simp] theorem raise_engine (k : NoticeKind) (i : Nat) (s : State) :
    (raise k i s).engine = s.engine := (raise_only k i s).engine
@[simp] theorem raise_gain (k : NoticeKind) (i : Nat) (s : State) :
    (raise k i s).gain = s.gain := (raise_only k i s).gain
@[simp] theorem raise_slotTable (k : NoticeKind) (i : Nat) (s : State) :
    (raise k i s).slotTable = s.slotTable := (raise_only k i s).slotTable
@[simp] theorem raise_channels (k : NoticeKind) (i : Nat) (s : State) :
    (raise k i s).channels = s.channels := (raise_only k i s).channels
@[simp] theorem raise_outstanding (k : NoticeKind) (i : Nat) (s : State) :
    (raise k i s).outstanding = s.outstanding := (raise_only k i s).outstanding
@[simp] theorem raise_laneTable (k : NoticeKind) (i : Nat) (s : State) :
    (raise k i s).laneTable = s.laneTable := (raise_only k i s).laneTable
@[simp] theorem raise_lanes (k : NoticeKind) (i : Nat) (s : State) :
    (raise k i s).lanes = s.lanes := (raise_only k i s).lanes
@[simp] theorem raise_mgmtQueue (k : NoticeKind) (i : Nat) (s : State) :
    (raise k i s).mgmtQueue = s.mgmtQueue := (raise_only k i s).mgmtQueue
@[simp] theorem raise_noticeMask (k : NoticeKind) (i : Nat) (s : State) :
    (raise k i s).noticeMask = s.noticeMask := (raise_only k i s).noticeMask
@[simp] theorem raise_resumes (k : NoticeKind) (i : Nat) (s : State) :
    (raise k i s).resumes = s.resumes := (raise_only k i s).resumes
@[simp] theorem raise_pending (k : NoticeKind) (i : Nat) (s : State) :
    (raise k i s).pending = s.pending := (raise_only k i s).pending
@[simp] theorem raise_bankE (k : NoticeKind) (i : Nat) (s : State) :
    (raise k i s).bankE = s.bankE := (raise_only k i s).bankE
@[simp] theorem raise_bankO (k : NoticeKind) (i : Nat) (s : State) :
    (raise k i s).bankO = s.bankO := (raise_only k i s).bankO
@[simp] theorem raise_mgmt (k : NoticeKind) (i : Nat) (s : State) :
    (raise k i s).mgmt = s.mgmt := (raise_only k i s).mgmt
@[simp] theorem raise_dump (k : NoticeKind) (i : Nat) (s : State) :
    (raise k i s).dump = s.dump := (raise_only k i s).dump
@[simp] theorem raise_ret (k : NoticeKind) (i : Nat) (s : State) : (raise k i s).ret = s.ret := (raise_only k i s).ret

@[simp] theorem incr_resetHeld (i : CounterId) (s : State) :
    (incr i s).resetHeld = s.resetHeld := (incr_only i s).resetHeld
@[simp] theorem incr_portTable (i : CounterId) (s : State) :
    (incr i s).portTable = s.portTable := (incr_only i s).portTable
@[simp] theorem incr_ports (i : CounterId) (s : State) : (incr i s).ports = s.ports := (incr_only i s).ports
@[simp] theorem incr_sourceTable (i : CounterId) (s : State) :
    (incr i s).sourceTable = s.sourceTable := (incr_only i s).sourceTable
@[simp] theorem incr_latches (i : CounterId) (s : State) : (incr i s).latches = s.latches := (incr_only i s).latches
@[simp] theorem incr_history (i : CounterId) (s : State) : (incr i s).history = s.history := (incr_only i s).history
@[simp] theorem incr_pushPos (i : CounterId) (s : State) : (incr i s).pushPos = s.pushPos := (incr_only i s).pushPos
@[simp] theorem incr_running (i : CounterId) (s : State) : (incr i s).running = s.running := (incr_only i s).running
@[simp] theorem incr_period (i : CounterId) (s : State) : (incr i s).period = s.period := (incr_only i s).period
@[simp] theorem incr_timer (i : CounterId) (s : State) : (incr i s).timer = s.timer := (incr_only i s).timer
@[simp] theorem incr_seq (i : CounterId) (s : State) : (incr i s).seq = s.seq := (incr_only i s).seq
@[simp] theorem incr_pass (i : CounterId) (s : State) : (incr i s).pass = s.pass := (incr_only i s).pass
@[simp] theorem incr_pathTable (i : CounterId) (s : State) :
    (incr i s).pathTable = s.pathTable := (incr_only i s).pathTable
@[simp] theorem incr_pathPending (i : CounterId) (s : State) :
    (incr i s).pathPending = s.pathPending := (incr_only i s).pathPending
@[simp] theorem incr_taps (i : CounterId) (s : State) : (incr i s).taps = s.taps := (incr_only i s).taps
@[simp] theorem incr_reports (i : CounterId) (s : State) : (incr i s).reports = s.reports := (incr_only i s).reports
@[simp] theorem incr_engine (i : CounterId) (s : State) : (incr i s).engine = s.engine := (incr_only i s).engine
@[simp] theorem incr_gain (i : CounterId) (s : State) : (incr i s).gain = s.gain := (incr_only i s).gain
@[simp] theorem incr_slotTable (i : CounterId) (s : State) :
    (incr i s).slotTable = s.slotTable := (incr_only i s).slotTable
@[simp] theorem incr_channels (i : CounterId) (s : State) :
    (incr i s).channels = s.channels := (incr_only i s).channels
@[simp] theorem incr_outstanding (i : CounterId) (s : State) :
    (incr i s).outstanding = s.outstanding := (incr_only i s).outstanding
@[simp] theorem incr_laneTable (i : CounterId) (s : State) :
    (incr i s).laneTable = s.laneTable := (incr_only i s).laneTable
@[simp] theorem incr_lanes (i : CounterId) (s : State) : (incr i s).lanes = s.lanes := (incr_only i s).lanes
@[simp] theorem incr_mgmtQueue (i : CounterId) (s : State) :
    (incr i s).mgmtQueue = s.mgmtQueue := (incr_only i s).mgmtQueue
@[simp] theorem incr_noticeMask (i : CounterId) (s : State) :
    (incr i s).noticeMask = s.noticeMask := (incr_only i s).noticeMask
@[simp] theorem incr_resumes (i : CounterId) (s : State) : (incr i s).resumes = s.resumes := (incr_only i s).resumes
@[simp] theorem incr_pending (i : CounterId) (s : State) : (incr i s).pending = s.pending := (incr_only i s).pending
@[simp] theorem incr_bankE (i : CounterId) (s : State) : (incr i s).bankE = s.bankE := (incr_only i s).bankE
@[simp] theorem incr_bankO (i : CounterId) (s : State) : (incr i s).bankO = s.bankO := (incr_only i s).bankO
@[simp] theorem incr_mgmt (i : CounterId) (s : State) : (incr i s).mgmt = s.mgmt := (incr_only i s).mgmt
@[simp] theorem incr_dump (i : CounterId) (s : State) : (incr i s).dump = s.dump := (incr_only i s).dump
@[simp] theorem incr_ret (i : CounterId) (s : State) : (incr i s).ret = s.ret := (incr_only i s).ret

@[simp] theorem incrTimes_resetHeld (i : CounterId) (n : Nat) (s : State) :
    (incrTimes i n s).resetHeld = s.resetHeld := (incrTimes_only i n s).resetHeld
@[simp] theorem incrTimes_portTable (i : CounterId) (n : Nat) (s : State) :
    (incrTimes i n s).portTable = s.portTable := (incrTimes_only i n s).portTable
@[simp] theorem incrTimes_ports (i : CounterId) (n : Nat) (s : State) :
    (incrTimes i n s).ports = s.ports := (incrTimes_only i n s).ports
@[simp] theorem incrTimes_sourceTable (i : CounterId) (n : Nat) (s : State) :
    (incrTimes i n s).sourceTable = s.sourceTable := (incrTimes_only i n s).sourceTable
@[simp] theorem incrTimes_latches (i : CounterId) (n : Nat) (s : State) :
    (incrTimes i n s).latches = s.latches := (incrTimes_only i n s).latches
@[simp] theorem incrTimes_history (i : CounterId) (n : Nat) (s : State) :
    (incrTimes i n s).history = s.history := (incrTimes_only i n s).history
@[simp] theorem incrTimes_pushPos (i : CounterId) (n : Nat) (s : State) :
    (incrTimes i n s).pushPos = s.pushPos := (incrTimes_only i n s).pushPos
@[simp] theorem incrTimes_running (i : CounterId) (n : Nat) (s : State) :
    (incrTimes i n s).running = s.running := (incrTimes_only i n s).running
@[simp] theorem incrTimes_period (i : CounterId) (n : Nat) (s : State) :
    (incrTimes i n s).period = s.period := (incrTimes_only i n s).period
@[simp] theorem incrTimes_timer (i : CounterId) (n : Nat) (s : State) :
    (incrTimes i n s).timer = s.timer := (incrTimes_only i n s).timer
@[simp] theorem incrTimes_seq (i : CounterId) (n : Nat) (s : State) :
    (incrTimes i n s).seq = s.seq := (incrTimes_only i n s).seq
@[simp] theorem incrTimes_pass (i : CounterId) (n : Nat) (s : State) :
    (incrTimes i n s).pass = s.pass := (incrTimes_only i n s).pass
@[simp] theorem incrTimes_pathTable (i : CounterId) (n : Nat) (s : State) :
    (incrTimes i n s).pathTable = s.pathTable := (incrTimes_only i n s).pathTable
@[simp] theorem incrTimes_pathPending (i : CounterId) (n : Nat) (s : State) :
    (incrTimes i n s).pathPending = s.pathPending := (incrTimes_only i n s).pathPending
@[simp] theorem incrTimes_taps (i : CounterId) (n : Nat) (s : State) :
    (incrTimes i n s).taps = s.taps := (incrTimes_only i n s).taps
@[simp] theorem incrTimes_reports (i : CounterId) (n : Nat) (s : State) :
    (incrTimes i n s).reports = s.reports := (incrTimes_only i n s).reports
@[simp] theorem incrTimes_engine (i : CounterId) (n : Nat) (s : State) :
    (incrTimes i n s).engine = s.engine := (incrTimes_only i n s).engine
@[simp] theorem incrTimes_gain (i : CounterId) (n : Nat) (s : State) :
    (incrTimes i n s).gain = s.gain := (incrTimes_only i n s).gain
@[simp] theorem incrTimes_slotTable (i : CounterId) (n : Nat) (s : State) :
    (incrTimes i n s).slotTable = s.slotTable := (incrTimes_only i n s).slotTable
@[simp] theorem incrTimes_channels (i : CounterId) (n : Nat) (s : State) :
    (incrTimes i n s).channels = s.channels := (incrTimes_only i n s).channels
@[simp] theorem incrTimes_outstanding (i : CounterId) (n : Nat) (s : State) :
    (incrTimes i n s).outstanding = s.outstanding := (incrTimes_only i n s).outstanding
@[simp] theorem incrTimes_laneTable (i : CounterId) (n : Nat) (s : State) :
    (incrTimes i n s).laneTable = s.laneTable := (incrTimes_only i n s).laneTable
@[simp] theorem incrTimes_lanes (i : CounterId) (n : Nat) (s : State) :
    (incrTimes i n s).lanes = s.lanes := (incrTimes_only i n s).lanes
@[simp] theorem incrTimes_mgmtQueue (i : CounterId) (n : Nat) (s : State) :
    (incrTimes i n s).mgmtQueue = s.mgmtQueue := (incrTimes_only i n s).mgmtQueue
@[simp] theorem incrTimes_noticeMask (i : CounterId) (n : Nat) (s : State) :
    (incrTimes i n s).noticeMask = s.noticeMask := (incrTimes_only i n s).noticeMask
@[simp] theorem incrTimes_resumes (i : CounterId) (n : Nat) (s : State) :
    (incrTimes i n s).resumes = s.resumes := (incrTimes_only i n s).resumes
@[simp] theorem incrTimes_pending (i : CounterId) (n : Nat) (s : State) :
    (incrTimes i n s).pending = s.pending := (incrTimes_only i n s).pending
@[simp] theorem incrTimes_bankE (i : CounterId) (n : Nat) (s : State) :
    (incrTimes i n s).bankE = s.bankE := (incrTimes_only i n s).bankE
@[simp] theorem incrTimes_bankO (i : CounterId) (n : Nat) (s : State) :
    (incrTimes i n s).bankO = s.bankO := (incrTimes_only i n s).bankO
@[simp] theorem incrTimes_mgmt (i : CounterId) (n : Nat) (s : State) :
    (incrTimes i n s).mgmt = s.mgmt := (incrTimes_only i n s).mgmt
@[simp] theorem incrTimes_dump (i : CounterId) (n : Nat) (s : State) :
    (incrTimes i n s).dump = s.dump := (incrTimes_only i n s).dump
@[simp] theorem incrTimes_ret (i : CounterId) (n : Nat) (s : State) :
    (incrTimes i n s).ret = s.ret := (incrTimes_only i n s).ret

@[simp] theorem checkParity_resetHeld (b : ParityBank) (ws : List StoredWord) (s : State) :
    (checkParity b ws s).resetHeld = s.resetHeld := (checkParity_only b ws s).resetHeld
@[simp] theorem checkParity_portTable (b : ParityBank) (ws : List StoredWord) (s : State) :
    (checkParity b ws s).portTable = s.portTable := (checkParity_only b ws s).portTable
@[simp] theorem checkParity_ports (b : ParityBank) (ws : List StoredWord) (s : State) :
    (checkParity b ws s).ports = s.ports := (checkParity_only b ws s).ports
@[simp] theorem checkParity_sourceTable (b : ParityBank) (ws : List StoredWord) (s : State) :
    (checkParity b ws s).sourceTable = s.sourceTable := (checkParity_only b ws s).sourceTable
@[simp] theorem checkParity_latches (b : ParityBank) (ws : List StoredWord) (s : State) :
    (checkParity b ws s).latches = s.latches := (checkParity_only b ws s).latches
@[simp] theorem checkParity_history (b : ParityBank) (ws : List StoredWord) (s : State) :
    (checkParity b ws s).history = s.history := (checkParity_only b ws s).history
@[simp] theorem checkParity_pushPos (b : ParityBank) (ws : List StoredWord) (s : State) :
    (checkParity b ws s).pushPos = s.pushPos := (checkParity_only b ws s).pushPos
@[simp] theorem checkParity_running (b : ParityBank) (ws : List StoredWord) (s : State) :
    (checkParity b ws s).running = s.running := (checkParity_only b ws s).running
@[simp] theorem checkParity_period (b : ParityBank) (ws : List StoredWord) (s : State) :
    (checkParity b ws s).period = s.period := (checkParity_only b ws s).period
@[simp] theorem checkParity_timer (b : ParityBank) (ws : List StoredWord) (s : State) :
    (checkParity b ws s).timer = s.timer := (checkParity_only b ws s).timer
@[simp] theorem checkParity_seq (b : ParityBank) (ws : List StoredWord) (s : State) :
    (checkParity b ws s).seq = s.seq := (checkParity_only b ws s).seq
@[simp] theorem checkParity_pass (b : ParityBank) (ws : List StoredWord) (s : State) :
    (checkParity b ws s).pass = s.pass := (checkParity_only b ws s).pass
@[simp] theorem checkParity_pathTable (b : ParityBank) (ws : List StoredWord) (s : State) :
    (checkParity b ws s).pathTable = s.pathTable := (checkParity_only b ws s).pathTable
@[simp] theorem checkParity_pathPending (b : ParityBank) (ws : List StoredWord) (s : State) :
    (checkParity b ws s).pathPending = s.pathPending := (checkParity_only b ws s).pathPending
@[simp] theorem checkParity_taps (b : ParityBank) (ws : List StoredWord) (s : State) :
    (checkParity b ws s).taps = s.taps := (checkParity_only b ws s).taps
@[simp] theorem checkParity_reports (b : ParityBank) (ws : List StoredWord) (s : State) :
    (checkParity b ws s).reports = s.reports := (checkParity_only b ws s).reports
@[simp] theorem checkParity_engine (b : ParityBank) (ws : List StoredWord) (s : State) :
    (checkParity b ws s).engine = s.engine := (checkParity_only b ws s).engine
@[simp] theorem checkParity_gain (b : ParityBank) (ws : List StoredWord) (s : State) :
    (checkParity b ws s).gain = s.gain := (checkParity_only b ws s).gain
@[simp] theorem checkParity_slotTable (b : ParityBank) (ws : List StoredWord) (s : State) :
    (checkParity b ws s).slotTable = s.slotTable := (checkParity_only b ws s).slotTable
@[simp] theorem checkParity_channels (b : ParityBank) (ws : List StoredWord) (s : State) :
    (checkParity b ws s).channels = s.channels := (checkParity_only b ws s).channels
@[simp] theorem checkParity_outstanding (b : ParityBank) (ws : List StoredWord) (s : State) :
    (checkParity b ws s).outstanding = s.outstanding := (checkParity_only b ws s).outstanding
@[simp] theorem checkParity_laneTable (b : ParityBank) (ws : List StoredWord) (s : State) :
    (checkParity b ws s).laneTable = s.laneTable := (checkParity_only b ws s).laneTable
@[simp] theorem checkParity_lanes (b : ParityBank) (ws : List StoredWord) (s : State) :
    (checkParity b ws s).lanes = s.lanes := (checkParity_only b ws s).lanes
@[simp] theorem checkParity_mgmtQueue (b : ParityBank) (ws : List StoredWord) (s : State) :
    (checkParity b ws s).mgmtQueue = s.mgmtQueue := (checkParity_only b ws s).mgmtQueue
@[simp] theorem checkParity_noticeMask (b : ParityBank) (ws : List StoredWord) (s : State) :
    (checkParity b ws s).noticeMask = s.noticeMask := (checkParity_only b ws s).noticeMask
@[simp] theorem checkParity_resumes (b : ParityBank) (ws : List StoredWord) (s : State) :
    (checkParity b ws s).resumes = s.resumes := (checkParity_only b ws s).resumes
@[simp] theorem checkParity_pending (b : ParityBank) (ws : List StoredWord) (s : State) :
    (checkParity b ws s).pending = s.pending := (checkParity_only b ws s).pending
@[simp] theorem checkParity_bankE (b : ParityBank) (ws : List StoredWord) (s : State) :
    (checkParity b ws s).bankE = s.bankE := (checkParity_only b ws s).bankE
@[simp] theorem checkParity_bankO (b : ParityBank) (ws : List StoredWord) (s : State) :
    (checkParity b ws s).bankO = s.bankO := (checkParity_only b ws s).bankO
@[simp] theorem checkParity_mgmt (b : ParityBank) (ws : List StoredWord) (s : State) :
    (checkParity b ws s).mgmt = s.mgmt := (checkParity_only b ws s).mgmt
@[simp] theorem checkParity_dump (b : ParityBank) (ws : List StoredWord) (s : State) :
    (checkParity b ws s).dump = s.dump := (checkParity_only b ws s).dump
@[simp] theorem checkParity_ret (b : ParityBank) (ws : List StoredWord) (s : State) :
    (checkParity b ws s).ret = s.ret := (checkParity_only b ws s).ret

@[simp] theorem returnChoose_resetHeld (s : State) :
    (returnChoose s).resetHeld = s.resetHeld := (returnChoose_only s).resetHeld
@[simp] theorem returnChoose_portTable (s : State) :
    (returnChoose s).portTable = s.portTable := (returnChoose_only s).portTable
@[simp] theorem returnChoose_ports (s : State) : (returnChoose s).ports = s.ports := (returnChoose_only s).ports
@[simp] theorem returnChoose_sourceTable (s : State) :
    (returnChoose s).sourceTable = s.sourceTable := (returnChoose_only s).sourceTable
@[simp] theorem returnChoose_latches (s : State) :
    (returnChoose s).latches = s.latches := (returnChoose_only s).latches
@[simp] theorem returnChoose_history (s : State) :
    (returnChoose s).history = s.history := (returnChoose_only s).history
@[simp] theorem returnChoose_pushPos (s : State) :
    (returnChoose s).pushPos = s.pushPos := (returnChoose_only s).pushPos
@[simp] theorem returnChoose_running (s : State) :
    (returnChoose s).running = s.running := (returnChoose_only s).running
@[simp] theorem returnChoose_period (s : State) : (returnChoose s).period = s.period := (returnChoose_only s).period
@[simp] theorem returnChoose_timer (s : State) : (returnChoose s).timer = s.timer := (returnChoose_only s).timer
@[simp] theorem returnChoose_seq (s : State) : (returnChoose s).seq = s.seq := (returnChoose_only s).seq
@[simp] theorem returnChoose_pass (s : State) : (returnChoose s).pass = s.pass := (returnChoose_only s).pass
@[simp] theorem returnChoose_pathTable (s : State) :
    (returnChoose s).pathTable = s.pathTable := (returnChoose_only s).pathTable
@[simp] theorem returnChoose_pathPending (s : State) :
    (returnChoose s).pathPending = s.pathPending := (returnChoose_only s).pathPending
@[simp] theorem returnChoose_taps (s : State) : (returnChoose s).taps = s.taps := (returnChoose_only s).taps
@[simp] theorem returnChoose_reports (s : State) :
    (returnChoose s).reports = s.reports := (returnChoose_only s).reports
@[simp] theorem returnChoose_engine (s : State) : (returnChoose s).engine = s.engine := (returnChoose_only s).engine
@[simp] theorem returnChoose_gain (s : State) : (returnChoose s).gain = s.gain := (returnChoose_only s).gain
@[simp] theorem returnChoose_slotTable (s : State) :
    (returnChoose s).slotTable = s.slotTable := (returnChoose_only s).slotTable
@[simp] theorem returnChoose_channels (s : State) :
    (returnChoose s).channels = s.channels := (returnChoose_only s).channels
@[simp] theorem returnChoose_outstanding (s : State) :
    (returnChoose s).outstanding = s.outstanding := (returnChoose_only s).outstanding
@[simp] theorem returnChoose_laneTable (s : State) :
    (returnChoose s).laneTable = s.laneTable := (returnChoose_only s).laneTable
@[simp] theorem returnChoose_lanes (s : State) : (returnChoose s).lanes = s.lanes := (returnChoose_only s).lanes
@[simp] theorem returnChoose_mgmtQueue (s : State) :
    (returnChoose s).mgmtQueue = s.mgmtQueue := (returnChoose_only s).mgmtQueue
@[simp] theorem returnChoose_noticeMask (s : State) :
    (returnChoose s).noticeMask = s.noticeMask := (returnChoose_only s).noticeMask
@[simp] theorem returnChoose_resumes (s : State) :
    (returnChoose s).resumes = s.resumes := (returnChoose_only s).resumes
@[simp] theorem returnChoose_pending (s : State) :
    (returnChoose s).pending = s.pending := (returnChoose_only s).pending
@[simp] theorem returnChoose_counters (s : State) :
    (returnChoose s).counters = s.counters := (returnChoose_only s).counters
@[simp] theorem returnChoose_parityFlags (s : State) :
    (returnChoose s).parityFlags = s.parityFlags := (returnChoose_only s).parityFlags

end Machine
end Sys2Proof
end

