-- ==== Sys2Proof/Laws/Store.lean ====
section
/-! SUPPORT. The stores: a read after a write, and the canonical form kept by every operation; reading a table that a
pointwise change has left. -/

namespace Sys2Proof
namespace Machine

/-! ### Canonical stores -/

theorem Store.wf_tail {x : Nat × StoredWord} {m : Store} (h : Store.wf (x :: m) = true) : Store.wf m = true := by
  obtain ⟨a, w⟩ := x
  cases m with
  | nil => rfl
  | cons y m => obtain ⟨b, v⟩ := y; simp [Store.wf] at h; exact h.2

theorem Store.wf_ne_zero {a : Nat} {w : StoredWord} {m : Store} (h : Store.wf ((a, w) :: m) = true) :
    w ≠ StoredWord.zero := by
  cases m with
  | nil => simpa [Store.wf] using h
  | cons y m => obtain ⟨b, v⟩ := y; simp [Store.wf] at h; exact h.1.2

/-- The head of a canonical store lies below every address listed after it. -/
theorem Store.wf_head_lt {a : Nat} {w : StoredWord} {m : Store} (h : Store.wf ((a, w) :: m) = true) :
    ∀ y ∈ m, a < y.1 := by
  induction m generalizing a w with
  | nil => simp
  | cons y m ih =>
    obtain ⟨b, v⟩ := y
    have hab : a < b := by simp [Store.wf] at h; exact h.1.1
    intro z hz
    rcases List.mem_cons.1 hz with rfl | hz
    · exact hab
    · exact lt_trans hab (ih (Store.wf_tail h) z hz)

theorem Store.wf_cons {a : Nat} {w : StoredWord} {m : Store} (hm : Store.wf m = true) (hw : w ≠ StoredWord.zero)
    (hlt : ∀ y ∈ m, a < y.1) : Store.wf ((a, w) :: m) = true := by
  cases m with
  | nil => simpa [Store.wf] using hw
  | cons y m => obtain ⟨b, v⟩ := y; simp [Store.wf]; exact ⟨⟨hlt (b, v) (by simp), hw⟩, hm⟩

/-- An address below every listed one reads as a word nothing has written. -/
theorem Store.read_of_lt {a : Nat} {m : Store} (h : ∀ y ∈ m, a < y.1) : m.read a = StoredWord.zero := by
  induction m with
  | nil => rfl
  | cons y m ih =>
    obtain ⟨b, v⟩ := y
    have hab : a < b := h (b, v) (by simp)
    simp only [Store.read, if_neg (Nat.ne_of_lt hab)]
    exact ih fun z hz => h z (List.mem_cons_of_mem _ hz)

theorem Store.mem_put {m : Store} {a : Nat} {w : StoredWord} {y : Nat × StoredWord} (h : y ∈ m.put a w) :
    y = (a, w) ∨ y ∈ m := by
  induction m with
  | nil => simp only [Store.put] at h; split at h <;> simp_all
  | cons x m ih =>
    obtain ⟨b, v⟩ := x
    simp only [Store.put] at h
    split at h
    · split at h <;> simp_all
    · split at h
      · split at h <;> simp_all; tauto
      · simp only [List.mem_cons] at h ⊢
        rcases h with h | h
        · exact .inr (.inl h)
        · rcases ih h with h | h
          · exact .inl h
          · exact .inr (.inr h)

/-- Every write keeps the canonical form. -/
theorem Store.wf_put {m : Store} (h : m.wf = true) (a : Nat) (w : StoredWord) : (m.put a w).wf = true := by
  induction m with
  | nil => simp only [Store.put]; split <;> simp_all [Store.wf]
  | cons x m ih =>
    obtain ⟨b, v⟩ := x
    have hm := Store.wf_tail h
    simp only [Store.put]
    split
    · rename_i hab
      split
      · exact h
      · rename_i hw
        refine Store.wf_cons h hw ?_
        intro y hy
        rcases List.mem_cons.1 hy with rfl | hy
        · exact hab
        · exact lt_trans hab (Store.wf_head_lt h y hy)
    · split
      · rename_i hab
        split
        · exact hm
        · rename_i hw
          exact Store.wf_cons hm hw (hab ▸ Store.wf_head_lt h)
      · rename_i hlt hne
        refine Store.wf_cons (ih hm) (Store.wf_ne_zero h) ?_
        intro y hy
        rcases Store.mem_put hy with rfl | hy
        · exact lt_of_le_of_ne (Nat.le_of_not_lt hlt) (Ne.symm hne)
        · exact Store.wf_head_lt h y hy

/-- A read after a write to the same address gives the word written. -/
theorem Store.read_put_self {m : Store} (h : m.wf = true) (a : Nat) (w : StoredWord) : (m.put a w).read a = w := by
  induction m with
  | nil => simp only [Store.put]; split <;> simp_all [Store.read]
  | cons x m ih =>
    obtain ⟨b, v⟩ := x
    simp only [Store.put]
    split
    · rename_i hab
      split
      · rename_i hw
        rw [hw]
        refine Store.read_of_lt ?_
        intro y hy
        rcases List.mem_cons.1 hy with rfl | hy
        · exact hab
        · exact lt_trans hab (Store.wf_head_lt h y hy)
      · simp [Store.read]
    · split
      · rename_i hab
        split
        · rename_i hw
          rw [hw]
          exact Store.read_of_lt (hab ▸ Store.wf_head_lt h)
        · simp [Store.read]
      · rename_i hne
        simp only [Store.read, if_neg hne]
        exact ih (Store.wf_tail h)

/-- A write leaves every other address as it reads. -/
theorem Store.read_put_ne (m : Store) {a c : Nat} (w : StoredWord) (hc : c ≠ a) : (m.put a w).read c = m.read c := by
  induction m with
  | nil => simp only [Store.put]; split <;> simp [Store.read, hc]
  | cons x m ih =>
    obtain ⟨b, v⟩ := x
    simp only [Store.put]
    split
    · split <;> simp [Store.read, hc]
    · split
      · rename_i hab
        subst hab
        split <;> simp [Store.read, hc]
      · simp only [Store.read, ih]

theorem Store.wf_write {m : Store} (h : m.wf = true) (a : Nat) (v : Word) : (m.write a v).wf = true :=
  Store.wf_put h a _

theorem Store.wf_writeRange {m : Store} (h : m.wf = true) (a : Nat) (vs : List Word) :
    (m.writeRange a vs).wf = true := by
  induction vs generalizing m a with
  | nil => exact h
  | cons v vs ih => exact ih (Store.wf_write h a v) (a + 1)

theorem Store.wf_writeAll {m : Store} (h : m.wf = true) (ws : List (Nat × Word)) : (m.writeAll ws).wf = true := by
  induction ws generalizing m with
  | nil => exact h
  | cons x ws ih => obtain ⟨a, v⟩ := x; exact ih (Store.wf_write h a v)

/-- A range of writes leaves every address outside the range as it reads. -/
theorem Store.read_writeRange_out (m : Store) (a : Nat) (vs : List Word) {c : Nat}
    (hc : c < a ∨ a + vs.length ≤ c) : (m.writeRange a vs).read c = m.read c := by
  induction vs generalizing m a with
  | nil => rfl
  | cons v vs ih =>
    simp only [List.length_cons] at hc
    simp only [Store.writeRange]
    rw [ih _ _ (by omega), Store.write, Store.read_put_ne _ _ (by omega)]

/-- A range of writes leaves at each of its addresses the value written there, with good parity. -/
theorem Store.read_writeRange_in {m : Store} (h : m.wf = true) (a : Nat) (vs : List Word) {i : Nat}
    (hi : i < vs.length) : (m.writeRange a vs).read (a + i) = StoredWord.written vs[i] := by
  induction vs generalizing m a i with
  | nil => simp at hi
  | cons v vs ih =>
    simp only [Store.writeRange]
    cases i with
    | zero =>
      rw [Nat.add_zero, Store.read_writeRange_out _ _ _ (by omega)]
      exact Store.read_put_self h a _
    | succ i =>
      have := ih (Store.wf_write h a v) (a + 1) (i := i) (by simpa using hi)
      rw [show a + (i + 1) = a + 1 + i by omega, this]
      rfl

/-- Writes leave every address that none of them names as it reads. -/
theorem Store.read_writeAll_out (m : Store) (ws : List (Nat × Word)) {c : Nat} (hc : ∀ x ∈ ws, x.1 ≠ c) :
    (m.writeAll ws).read c = m.read c := by
  induction ws generalizing m with
  | nil => rfl
  | cons x ws ih =>
    obtain ⟨a, v⟩ := x
    simp only [Store.writeAll]
    rw [ih _ fun y hy => hc y (List.mem_cons_of_mem _ hy), Store.write,
      Store.read_put_ne _ _ (Ne.symm (hc (a, v) (by simp)))]

/-- Writes whose addresses differ leave at each address the value written there, with good parity. -/
theorem Store.read_writeAll_in {m : Store} (h : m.wf = true) (ws : List (Nat × Word))
    (hn : (ws.map (·.1)).Nodup) {x : Nat × Word} (hx : x ∈ ws) :
    (m.writeAll ws).read x.1 = StoredWord.written x.2 := by
  induction ws generalizing m with
  | nil => simp at hx
  | cons y ws ih =>
    obtain ⟨a, v⟩ := y
    simp only [List.map_cons, List.nodup_cons] at hn
    simp only [Store.writeAll]
    rcases List.mem_cons.1 hx with rfl | hx
    · rw [Store.read_writeAll_out _ _ fun z hz he => hn.1 (List.mem_map.2 ⟨z, hz, he⟩)]
      exact Store.read_put_self h a _
    · exact ih (Store.wf_write h a v) hn.2 hx

/-! ### Pointwise change of a table -/

theorem mapFrom_getElem? {α β : Type} (f : Nat → α → β) (i : Nat) (xs : List α) (j : Nat) :
    (mapFrom f i xs)[j]? = (xs[j]?).map (f (i + j)) := by
  induction xs generalizing i j with
  | nil => simp [mapFrom]
  | cons x xs ih =>
    cases j with
    | zero => simp [mapFrom]
    | succ j => simp only [mapFrom, List.getElem?_cons_succ, ih]; congr 2; omega

theorem mapFrom_getElem {α β : Type} (f : Nat → α → β) (i : Nat) (xs : List α) (j : Nat)
    (hj : j < (mapFrom f i xs).length) :
    (mapFrom f i xs)[j] = f (i + j) (xs[j]'(by simpa [mapFrom_length] using hj)) := by
  have h := mapFrom_getElem? f i xs j
  rw [List.getElem?_eq_getElem hj, List.getElem?_eq_getElem (by simpa [mapFrom_length] using hj)] at h
  simpa using h

/-- Entry i of a changed table is the change of entry i. -/
@[simp] theorem mapEntries_getElem {α β : Type} {n : Nat} (f : Nat → α → β) (v : Vector α n) (i : Nat) (h : i < n) :
    (mapEntries f v)[i] = f i v[i] := by
  have hl : i < (mapFrom f 0 v.toList).length := by simpa [mapFrom_length] using h
  have := mapFrom_getElem f 0 v.toList i hl
  simp only [Nat.zero_add] at this
  have h2 : v.toList[i]'(by simpa using h) = v[i] := by simp
  rw [← h2, ← this]
  rfl

end Machine
end Sys2Proof
end

