-- ==== Sys2Proof/Laws/Banks.lean ====
section
/-! SUPPORT. The bank arbiters: what a request, a taking and a completion may touch, and what a taken operation
reads and writes (R79 to R82). -/

namespace Sys2Proof
namespace Machine

/-- t differs from s at most in the taps, the banks and the duration of the pass in flight (R72). -/
def OnlyBanks (s t : State) : Prop :=
  t = { s with taps := t.taps, bankE := t.bankE, bankO := t.bankO,
               pass := { s.pass with elapsedNs := t.pass.elapsedNs } }

theorem OnlyBanks.refl (s : State) : OnlyBanks s s := rfl

theorem OnlyBanks.trans {s t u : State} (h : OnlyBanks s t) (k : OnlyBanks t u) : OnlyBanks s u := by
  unfold OnlyBanks at *; rw [k, h]

theorem setBank_only (s : State) (b : BankId) (k : Bank) : OnlyBanks s (s.setBank b k) := by cases b <;> rfl

theorem countTapWrites_only (n : Nat) (s : State) : OnlyBanks s (countTapWrites n s) := by
  unfold countTapWrites; split <;> rfl

theorem takeOp_only (b : BankId) (op : BankOp) (s : State) : OnlyBanks s (takeOp b op s) := by
  unfold takeOp
  cases op with
  | adaptUpdate block deltas =>
    dsimp only
    split
    · generalize hm : s.taps.writeRange _ _ = m
      refine OnlyBanks.trans (t := { s with taps := m }) rfl ?_
      exact (setBank_only _ b _).trans (countTapWrites_only _ _)
    · exact setBank_only _ _ _
  | mgmtWrite writes =>
    refine OnlyBanks.trans (t := { s with taps := s.taps.writeAll writes }) rfl ?_
    exact (setBank_only _ b _).trans (countTapWrites_only _ _)
  | passRead _ _ => exact setBank_only _ _ _
  | dumpRead _ => exact setBank_only _ _ _
  | mgmtRead _ _ _ => exact setBank_only _ _ _

theorem request_only (b : BankId) (op : BankOp) (s : State) : OnlyBanks s (request b op s) := by
  unfold request; split
  · exact takeOp_only _ _ _
  · exact setBank_only _ _ _

theorem takeNext_only (b : BankId) (s : State) : OnlyBanks s (takeNext b s) := by
  unfold takeNext
  dsimp only
  split
  all_goals first
    | exact setBank_only _ _ _
    | exact (setBank_only _ _ _).trans (takeOp_only _ _ _)

/-- Every operation taken keeps the taps canonical. -/
theorem takeOp_wf (b : BankId) (op : BankOp) {s : State} (h : s.taps.wf = true) : (takeOp b op s).taps.wf = true := by
  have count (n : Nat) (u : State) : (countTapWrites n u).taps = u.taps := by unfold countTapWrites; split <;> rfl
  unfold takeOp
  cases op with
  | adaptUpdate block deltas =>
    dsimp only
    split
    · rw [count, setBank_taps]; exact Store.wf_writeRange h _ _
    · rw [setBank_taps]; exact h
  | mgmtWrite writes => rw [count, setBank_taps]; exact Store.wf_writeAll h _
  | passRead _ _ => rw [setBank_taps]; exact h
  | dumpRead _ => rw [setBank_taps]; exact h
  | mgmtRead _ _ _ => rw [setBank_taps]; exact h

/-- R80: a taken operation is under way on its bank. -/
theorem takeOp_busy (b : BankId) (op : BankOp) (s : State) :
    ∃ u, ((takeOp b op s).bank b).busy = some u ∧ u.op = op := by
  have count (n : Nat) (u : State) : (countTapWrites n u).bank b = u.bank b := by
    unfold countTapWrites; split <;> (cases b <;> rfl)
  unfold takeOp
  cases op with
  | adaptUpdate block deltas =>
    dsimp only
    split
    · exact ⟨_, by rw [count, bank_setBank], rfl⟩
    · exact ⟨_, by rw [bank_setBank], rfl⟩
  | mgmtWrite writes => exact ⟨_, by rw [count, bank_setBank], rfl⟩
  | passRead _ _ => exact ⟨_, by rw [bank_setBank], rfl⟩
  | dumpRead _ => exact ⟨_, by rw [bank_setBank], rfl⟩
  | mgmtRead _ _ _ => exact ⟨_, by rw [bank_setBank], rfl⟩

theorem readRange_length (m : Store) (a n : Nat) : (m.readRange a n).length = n := by
  induction n generalizing a with
  | zero => rfl
  | succ n ih => simp [Store.readRange, ih]

theorem readRange_getElem? (m : Store) (a n i : Nat) :
    (m.readRange a n)[i]? = if i < n then some (m.read (a + i)) else none := by
  induction n generalizing a i with
  | zero => simp [Store.readRange]
  | succ n ih =>
    cases i with
    | zero => simp [Store.readRange]
    | succ i => simp [Store.readRange, ih, show a + 1 + i = a + (i + 1) by omega]

end Machine
end Sys2Proof
end

