-- ==== Sys2Proof/Laws/Lanes.lean ====
section
/-! SUPPORT. The lane queues, the lane arbiter and the channels: what each shared operation may touch. -/

namespace Sys2Proof
namespace Machine

/-- takeFirst answers the first accepted member: what stands before it is not accepted, and the list without it is
left. -/
theorem takeFirst_spec {α : Type} (p : α → Bool) (xs : List α) (y : α) (ys : List α)
    (h : takeFirst p xs = some (y, ys)) :
    ∃ l r, xs = l ++ y :: r ∧ ys = l ++ r ∧ p y = true ∧ ∀ x ∈ l, p x = false := by
  induction xs generalizing y ys with
  | nil => simp [takeFirst] at h
  | cons x xs ih =>
    simp only [takeFirst] at h
    split at h
    · rename_i hp
      simp only [Option.some.injEq, Prod.mk.injEq] at h
      obtain ⟨rfl, rfl⟩ := h
      exact ⟨[], xs, rfl, rfl, hp, by simp⟩
    · rename_i hp
      split at h
      · rename_i z zs hz
        simp only [Option.some.injEq, Prod.mk.injEq] at h
        obtain ⟨rfl, rfl⟩ := h
        obtain ⟨l, r, rfl, rfl, hy, hl⟩ := ih _ _ hz
        refine ⟨x :: l, r, rfl, rfl, hy, ?_⟩
        intro w hw
        rcases List.mem_cons.1 hw with rfl | hw
        · simpa using hp
        · exact hl w hw
      · simp at h

theorem takeFirst_none {α : Type} (p : α → Bool) (xs : List α) : takeFirst p xs = none ↔ ∀ x ∈ xs, p x = false := by
  induction xs with
  | nil => simp [takeFirst]
  | cons x xs ih =>
    simp only [takeFirst, List.mem_cons, forall_eq_or_imp]
    split
    · rename_i hp; simp [hp]
    · rename_i hp
      rw [← ih]
      split
      · rename_i y ys hz; simp [hz]
      · rename_i hz; simp [hz, Bool.eq_false_iff.2 hp]

theorem laneChoose_frame (l : Fin 4) (s : State) : laneChoose l s = { s with lanes := (laneChoose l s).lanes } := by
  unfold laneChoose
  dsimp only
  split
  · split <;> rfl
  · rfl

/-- The arbiter's choice leaves the other lanes, and a lane that is DOWN or whose line is busy. -/
theorem laneChoose_lane_ne (l m : Fin 4) (s : State) (h : m ≠ l) : (laneChoose l s).lanes[m] = s.lanes[m] := by
  have hne : l.1 ≠ m.1 := fun e => h (Fin.ext e.symm)
  unfold laneChoose
  dsimp only
  split
  · split
    · simp [setLane, Vector.getElem_set_ne _ _ hne]
    · rfl
  · rfl

theorem flushTimed_frame (t : Fin 96) (s : State) : flushTimed t s = { s with lanes := (flushTimed t s).lanes } := rfl

/-- t differs from s at most in the lanes and in what a count touches. -/
def OnlyLanes (s t : State) : Prop :=
  t = { s with lanes := t.lanes, counters := t.counters, parityFlags := t.parityFlags, notices := t.notices }

theorem OnlyLanes.refl (s : State) : OnlyLanes s s := rfl

theorem OnlyLanes.trans {s t u : State} (h : OnlyLanes s t) (k : OnlyLanes t u) : OnlyLanes s u := by
  unfold OnlyLanes at *; rw [k, h]

theorem OnlyCounts.onlyLanes {s t : State} (h : OnlyCounts s t) : OnlyLanes s t := by
  unfold OnlyCounts OnlyLanes at *; rw [h]

theorem setLane_only (l : Fin 4) (k : Lane) (s : State) : OnlyLanes s (setLane l k s) := rfl

theorem laneChoose_only (l : Fin 4) (s : State) : OnlyLanes s (laneChoose l s) := by
  rw [laneChoose_frame]; rfl

theorem joinTimed_only (e : TimedEntry) (s : State) : OnlyLanes s (joinTimed e s) := by
  unfold joinTimed
  dsimp only
  split
  · exact (setLane_only _ _ s).trans ((incr_only _ _).trans (raise_only _ _ _)).onlyLanes
  · exact setLane_only _ _ s

theorem handOver_only (e : TimedEntry) (s : State) : OnlyLanes s (handOver e s) := by
  unfold handOver
  split
  · exact (joinTimed_only e s).trans (laneChoose_only _ _)
  · exact OnlyLanes.refl s

end Machine
end Sys2Proof
end

