-- ==== Sys2Proof/Laws/Walk.lean ====
section
/-! SUPPORT. What the adaptation walk can do: the next path that it finds, and where it leaves the engine. -/

namespace Sys2Proof
namespace Machine

/-- What a search from index i on can answer. -/
theorem findFrom_spec {α : Type} (p : α → Bool) (xs : List α) : ∀ i : Nat,
    match findFrom p i xs with
    | some (j, x) => i ≤ j ∧ xs[j - i]? = some x ∧ p x = true ∧ ∀ k, k < j - i → ∀ y, xs[k]? = some y → p y = false
    | none => ∀ x ∈ xs, p x = false := by
  induction xs with
  | nil => intro i x hx; cases hx
  | cons a as ih =>
    intro i
    by_cases ha : p a = true
    · simp [findFrom, ha]
    · have h := ih (i + 1)
      rw [show findFrom p i (a :: as) = findFrom p (i + 1) as by simp [findFrom, ha]]
      revert h
      split
      · rename_i j x _
        rintro ⟨h1, h2, h3, h4⟩
        have e : j - i = j - (i + 1) + 1 := by omega
        refine ⟨by omega, by rw [e]; simpa using h2, h3, fun k hk y hy => ?_⟩
        cases k with
        | zero => simp only [List.getElem?_cons_zero, Option.some.injEq] at hy; subst hy; simpa using ha
        | succ k => exact h4 k (by omega) y (by simpa using hy)
      · intro h x hx
        rcases List.mem_cons.mp hx with rfl | hx
        · simpa using ha
        · exact h x hx

theorem adaptsFor_iff (s : State) (t : Fin 96) (i : Fin 384) :
    adaptsFor t s.pathTable[i] = true ↔ Adapts s t i := by
  simp [adaptsFor, Adapts, and_assoc]

theorem pathTable_drop (s : State) (i k : Nat) (h : i + k < 384) :
    (s.pathTable.toList.drop i)[k]? = some s.pathTable[(⟨i + k, h⟩ : Fin 384)] := by
  rw [List.getElem?_drop, List.getElem?_eq_getElem (by simpa using h)]
  simp

/-- R101: the walk's next path is the lowest from i on that it updates. -/
theorem nextAdaptive_some (s : State) (t : Fin 96) (i : Nat) (j : Fin 384) (hj : i ≤ j.1) (ha : Adapts s t j)
    (hk : ∀ k : Fin 384, i ≤ k.1 → k < j → ¬ Adapts s t k) :
    nextAdaptive s.pathTable t i = some (j.1, s.pathTable[j]) := by
  have h := findFrom_spec (adaptsFor t) (s.pathTable.toList.drop i) i
  have hmem : (s.pathTable.toList.drop i)[j.1 - i]? = some s.pathTable[j] := by
    rw [pathTable_drop s i (j.1 - i) (by omega)]
    congr 2; simp only [Nat.add_sub_cancel' hj]
  unfold nextAdaptive
  revert h
  split
  · rename_i n x _
    rintro ⟨h1, h2, h3, h4⟩
    rcases Nat.lt_trichotomy n j.1 with hlt | heq | hgt
    · have hn : i + (n - i) < 384 := by have := j.2; omega
      rw [pathTable_drop s i (n - i) hn] at h2
      cases h2
      rw [adaptsFor_iff] at h3
      exact absurd h3 (hk _ (by simp) (by simp only [Fin.lt_def]; omega))
    · subst heq; rw [hmem] at h2; cases h2; assumption
    · have := h4 (j.1 - i) (by omega) _ hmem
      rw [(adaptsFor_iff s t j).mpr ha] at this; cases this
  · intro h
    have := h _ (List.mem_of_getElem? hmem)
    rw [(adaptsFor_iff s t j).mpr ha] at this; cases this

theorem nextAdaptive_none (s : State) (t : Fin 96) (i : Nat) (hn : ∀ k : Fin 384, i ≤ k.1 → ¬ Adapts s t k) :
    nextAdaptive s.pathTable t i = none := by
  have h := findFrom_spec (adaptsFor t) (s.pathTable.toList.drop i) i
  unfold nextAdaptive
  revert h
  split
  · rename_i n x _
    rintro ⟨h1, h2, h3, -⟩
    have hlen : n - i < (s.pathTable.toList.drop i).length := (List.getElem?_eq_some_iff.mp h2).1
    have hlt : i + (n - i) < 384 := by simp at hlen; omega
    rw [pathTable_drop s i (n - i) hlt] at h2
    cases h2
    exact absurd ((adaptsFor_iff _ _ _).mp h3) (hn _ (by simp))
  · intro _; assumption

/-- R101, R109, R110: everything that the walk's going on can do. -/
theorem walkOn_goesOn (v : Service) (i : Nat) (s : State) : WalkGoesOn v i s (walkOn v i s) := by
  constructor
  · intro j hj ha hk
    simp [walkOn, nextAdaptive_some s v.slot i j hj ha hk]
  · intro hn
    simp only [walkOn, nextAdaptive_none s v.slot i hn, stepGain, gainStep, magnitude]
    congr 2
    by_cases h1 : s.slotTable[v.slot].burst ≤ v.residual.toInt.natAbs
    · simp only [h1, if_true]
    · by_cases h2 : v.residual.toInt.natAbs < s.slotTable[v.slot].quiet <;>
        by_cases h3 : s.gain[v.slot].quietRun + 1 < 16 <;>
        simp only [h1, h2, h3, if_true, if_false, and_self, and_false, false_and]

end Machine
end Sys2Proof
end

