-- ==== Sys2Proof/Tests/Slice0.lean ====
section
/-! SUPPORT. Small tests of one command each, with expected values from the spec's own examples and rules, the smoke
test of WellFormed, and for each statement with hypotheses a witness that meets them, clause by clause. -/

open Sys2Proof Sys2Proof.Machine

namespace Sys2Proof
namespace Tests

/-! ### Small states -/

def base : State := State.reset

/-- The state a command leaves. -/
def after (c : Instr) (s : State) : State :=
  match exec c s with
  | .next t => t
  | .fault _ => base
  | .refused _ => base

/-- Port p in a state, with a frame being collected or none. -/
def portAt (p : Fin 8) (m : PortMode) (rx : Option RxFrame) : State :=
  setPort p { base.ports[p] with mode := m, training := false, watchdog := some 10, gate := some 0, rx := rx } base

def portEntry (p : Fin 8) (f : PortEntry → PortEntry) (s : State) : State :=
  { s with portTable := s.portTable.set p (f s.portTable[p]) }

/-- A SAMPLE frame of a node, complete and not marked. -/
def sampleFrame (node : Nat) (xs : List Word) : RxFrame := ⟨withCrc (header 1 node xs.length :: xs), false⟩

def mwriteFrame (table : Nat) (increment : Bool) (off : Nat) (data : List Word) : MgmtFrame :=
  ⟨header 2 0 (3 + data.length), [7, mkWord (table * 4096 + num increment * 2048), mkWord off] ++ data⟩

def mreadFrame (table : Nat) (clear : Bool) (count off : Nat) : MgmtFrame :=
  ⟨header 3 0 3, [500, mkWord (table * 4096 + num clear * 2048 + count), mkWord off]⟩

def mactFrame (code : Nat) (args : List Word) : MgmtFrame := ⟨header 4 0 (2 + args.length), [9, mkWord code] ++ args⟩

/-- The Management Unit has just taken a frame. -/
def taken (f : MgmtFrame) (s : State) : State := { s with mgmt := .executing f .taken }

/-- The reply of the frame in execution, once its effects are complete. -/
def replyOf (s : State) : Option Reply :=
  match s.mgmt with
  | .executing _ (.finished r) => some r
  | _ => none

/-- A pass in its walk, at a position. -/
def walking (n : Nat) (s : State) : State := { s with pass := { s.pass with stage := .walk, walkPos := n } }

def slotEntry (t : Fin 96) (f : SlotEntry → SlotEntry) (s : State) : State :=
  { s with slotTable := s.slotTable.set t (f s.slotTable[t]) }

def pathEntry (i : Fin 384) (f : PathEntry → PathEntry) (s : State) : State :=
  { s with pathTable := s.pathTable.set i (f s.pathTable[i]) }

def channelAt (t : Fin 96) (st : ChannelState) (s : State) : State := setChannel t ⟨st, 0, none⟩ s

/-- Lane l UP, with a frame being collected or none. -/
def laneUp (l : Fin 4) (rx : Option RxFrame) (s : State) : State := setLane l { s.lanes[l] with up := true, rx := rx } s

/-- Slot 5 of the worked Case 1 (01 section 1.9, 05 section 5.8), enabled, in RUN, its lane DOWN. -/
def case1 : State :=
  let s := channelAt 5 .run (slotEntry 5 (fun e => { e with
    enabled := true, adaptation := true, shift := 2, limit := 12000, muFloor := 8, muStart := 64, muCeiling := 128,
    quiet := 200, burst := 5000 }) base)
  let s := pathEntry 1 (fun _ => ⟨.enabled, 5, 7, 41, 2, 1, false⟩)
    (pathEntry 0 (fun _ => ⟨.enabled, 5, 3, 40, 3, 0, true⟩) s)
  { s with
    sourceTable := (s.sourceTable.set 3 { s.sourceTable[3] with kind := .sensor }).set 7
      { s.sourceTable[7] with kind := .aggressor }
    pushPos := 10
    history := [(152, ⟨-4000, true⟩), (153, ⟨2000, true⟩), (154, ⟨1000, true⟩), (344, ⟨-100, true⟩), (345, ⟨300, true⟩)]
    taps := [(1280, ⟨16384, true⟩), (1281, ⟨-8192, true⟩), (1282, ⟨4096, true⟩), (1312, ⟨32767, true⟩),
      (1313, ⟨10000, true⟩)]
    gain := s.gain.set 5 ⟨64, 0, some 99⟩
    seq := 100
    pass := { s.pass with stage := .walk, seq := 100, walkPos := 5 } }

/-! ### WellFormed -/

/-- R126: slot 95 is lane 3's, so lane 0 has no window of it. -/
theorem test_wf_refuses_foreign_window : Instr.wf (.answerWindowExpiry 0 95) = false := by decide
theorem test_wf_accepts_own_window : Instr.wf (.answerWindowExpiry 3 95) = true := by decide

/-! ### Words and arithmetic -/

/-- 10 section 10.7: the header of the example MREAD. -/
theorem test_header_mread : header 3 0 3 = 12291 := by decide
/-- R195: the CRC over one word of zeros, the CRC-16 with preset ones and generator 4129. -/
theorem test_crc_zero_word : crc16 [0] = 0x1D0F := by decide +kernel
/-- 01 section 1.9, Case 4 and R19: the ties. -/
theorem test_correction_ties : rawCorrection 0 16384 = 1 ∧ rawCorrection 0 (-16384) = 0 := by decide
/-- 01 section 1.9, Cases 1 to 3. -/
theorem test_correction_cases : rawCorrection 2 (-7553900) = -58 ∧
    correction 32767 (rawCorrection 0 1200000000) = 32767 ∧
    correction 500 (rawCorrection 3 (-200000000)) = -500 := by decide
/-- 05 section 5.8: energy, exponent and deltas. -/
theorem test_delta_case3 : energy [1000, 2000, -4000] = 21000000 ∧ normExponent 20 21000000 = 25 ∧
    [(1000 : Word), 2000, -4000].map (delta 64 25 (-600)) = [-146, -293, 586] := by decide

/-! ### Commands -/

theorem test_powerOnReset_drops_running : (after .powerOnReset case1).running = false ∧
    (after .powerOnReset case1).ports[0].training = false := by decide
/-- R202: the lanes train from the release on. -/
theorem test_resetRelease_trains : (after .resetRelease (after .powerOnReset case1)).lanes[3].training = true := by
  decide
/-- R33: a lock report of an OFF port is ignored. -/
theorem test_portLinkLock : (after (.portLinkLock 0) base).ports[0].mode = .qualifying ∧
    (after (.portLinkLock 2) base).ports[2].mode = .off := by decide
theorem test_portLossOfLock : (after (.portLossOfLock 2) (portAt 2 .passing none)).ports[2].mode = .dark := by decide
/-- 02 section 2.7: a symbol error marks the frame. -/
theorem test_portSymbolError : (after (.portSymbolError 2) (portAt 2 .passing (some ⟨[], false⟩))).ports[2].rx =
    some ⟨[], true⟩ := by decide
theorem test_portStartMark_misplaced :
    (after (.portStartMark 2) (portAt 2 .passing (some ⟨[4224], false⟩))).ports[2].linkErrors = 1 := by decide
theorem test_portWordReceived : (after (.portWordReceived 2 9) (portAt 2 .passing (some ⟨[4], false⟩))).ports[2].rx =
    some ⟨[4, 9], false⟩ := by decide
/-- 02 section 2.7: source 3 has key (2, 4, 1), inverts, and takes 32767 from −32768 (R50). -/
theorem test_portEndMark_inverts :
    let s := portAt 2 .passing (some (sampleFrame 4 [1, -32768, 3]))
    let e : SourceEntry := ⟨.sensor, 2, 4, 1, 0, true, 2⟩
    (after (.portEndMark 2) { s with sourceTable := s.sourceTable.set 3 e }).latches[3] = ⟨32767, 0, true⟩ := by
  decide +kernel
theorem test_portWatchdogExpiry : (after (.portWatchdogExpiry 2) (portAt 2 .passing none)).ports[2].mode =
    .qualifying := by
  decide
/-- 02 section 2.7: the end of gate 1. -/
theorem test_portRateGateEnd_first :
    let s := portAt 2 .qualifying none
    let q := (after (.portRateGateEnd 2) (setPort 2 { s.ports[2] with gate := some 204 } s)).ports[2]
    q.rate = 204 ∧ q.stableRun = 0 ∧ q.gate = some 0 := by decide
/-- 02 section 2.7: the end of gate 3 passes the port. -/
theorem test_portRateGateEnd_passes :
    let s := portEntry 2 (fun e => { e with passThreshold := 4, minRate := 200, rateHysteresis := 3 })
      (portAt 2 .qualifying none)
    let q : Port := { s.ports[2] with run := 15, rate := 204, stableRun := 1, gate := some 205 }
    (after (.portRateGateEnd 2) (setPort 2 q s)).ports[2].mode = .passing := by decide
/-- R58: the sequence wraps. -/
theorem test_periodExpiry_wraps : (after .periodExpiry { base with running := true, seq := 65535 }).seq = 0 := by decide
/-- R51: a value of age 8 is pushed under a hold limit of 8, one of age 9 is not. -/
theorem test_passPush_hold :
    let e : SourceEntry := ⟨.sensor, 0, 0, 0, 0, false, 8⟩
    let s : State := { base with
      pass := { base.pass with stage := .push }, sourceTable := (base.sourceTable.set 0 e).set 1 e
      latches := (base.latches.set 0 ⟨77, 8, false⟩).set 1 ⟨77, 9, false⟩ }
    (after .passPush s).history = [(1, ⟨77, true⟩)] := by decide +kernel
/-- 01 section 1.9, Case 1: two path reads later, lane 0 is handed −58. -/
theorem test_walkSlot_case1 :
    ((after .walkSlot (after (.tapOperationComplete .o) (after (.tapOperationComplete .e)
      (after .walkSlot case1)))).lanes[0].timed) = [⟨5, 100, .correct (-58) false⟩] := by decide +kernel
/-- 03 section 3.4, the worked example: an ACCEPT between the reading of a PROBE slot and the hand-over discards the
PROBE entry; an older one has been flushed (R145), so that no overrun is counted. -/
theorem test_walkSlot_accept_between :
    let s := laneUp 1 none (channelAt 31 .probe (slotEntry 31 (fun e => { e with enabled := true }) (walking 31 base)))
    let t := setOutstanding 31 (some ⟨.probe, 0, 20⟩) s
    let old := setLane 1 { t.lanes[1] with timed := [⟨31, 0, .probe⟩] } t
    let answer := setLane 1 { old.lanes[1] with rx := some ⟨withCrc [header 8 31 2, 0, 1], false⟩ }
      (after .walkSlot old)
    let u := after .walkSlot (after (.laneEndMark 1) answer)
    u.channels[31].state = .run ∧ u.lanes[1].timed = [] ∧ u.counters.read (.slot 31 .overrun) = 0 ∧
      u.pass.walkPos = 32 := by decide +kernel
theorem test_passComplete : (after .passComplete (walking 96 base)).pass.lastOutcome = .completed := by decide
/-- 05 section 5.8: the report is taken, the path updated, the taps written, the gain kept. -/
theorem test_adaptation_case3 :
    let s := after (.tapOperationComplete .e) (after .adaptPathUpdate
      (after .reportTake { case1 with reports := [⟨5, 100, -600⟩] }))
    s.taps.readRange 1280 3 = [⟨16238, true⟩, ⟨-8485, true⟩, ⟨4682, true⟩] ∧ s.gain[5] = ⟨64, 0, some 100⟩ ∧
      s.engine = none := by decide +kernel
/-- R99: a report 9 periods old is late. -/
theorem test_reportTake_late :
    (after .reportTake { case1 with reports := [⟨5, 91, 0⟩] }).counters.read (.slot 5 .late) = 1 := by
  decide +kernel
theorem test_laneLinkLock : (after (.laneLinkLock 1) base).lanes[1].up = true := by decide
theorem test_laneLossOfLock : (after (.laneLossOfLock 0) (laneUp 0 none case1)).channels[5] =
    ⟨.halted, 0, some .lane⟩ := by
  decide
theorem test_laneSymbolError : (after (.laneSymbolError 1) (laneUp 1 none base)).lanes[1].linkErrors = 1 := by decide
theorem test_laneStartMark : (after (.laneStartMark 1) (laneUp 1 none base)).lanes[1].rx = some ⟨[], false⟩ := by decide
theorem test_laneWordReceived : (after (.laneWordReceived 1 9) (laneUp 1 (some ⟨[4], false⟩) base)).lanes[1].rx =
    some ⟨[4, 9], false⟩ := by decide
/-- R146: a DEFER in RUN sends the channel to PROBE. -/
theorem test_laneEndMark_defer :
    (after (.laneEndMark 0) (setOutstanding 5 (some ⟨.correct, 99, 20⟩)
      (laneUp 0 (some ⟨withCrc [header 8 5 2, 99, 2], false⟩) case1))).channels[5] = ⟨.probe, 0, none⟩ := by
  decide +kernel
theorem test_laneTransmitEnd_record :
    let s := laneUp 0 none base
    (after (.laneTransmitEnd 0) (setLane 0 { s.lanes[0] with tx := some ⟨.halt 5 9, true⟩ } s)).outstanding[5] =
      some ⟨.halt, 9, 20⟩ := by decide
/-- R148: the third miss retires the channel. -/
theorem test_answerWindowExpiry_third :
    (after (.answerWindowExpiry 0 5) (setOutstanding 5 (some ⟨.correct, 99, 20⟩)
      (setChannel 5 ⟨.run, 2, none⟩ base))).channels[5] = ⟨.retired, 0, none⟩ := by decide
theorem test_mgmtFrameTake_format :
    (replyOf (after .mgmtFrameTake { base with mgmtQueue := [mactFrame 12 []] })).map (·.status) = some .format := by
  decide
/-- R32: the write of enabled takes S2 from OFF to DARK. -/
theorem test_mwritePort_enables :
    (after .mwritePort (taken (mwriteFrame 1 false 8 [0x8088]) base)).ports[2].mode = .dark := by decide +kernel
/-- R46: a changed key resets the latch. -/
theorem test_mwriteSource_resets :
    let s := { base with latches := base.latches.set 47 ⟨5, 0, true⟩ }
    (after .mwriteSource (taken (mwriteFrame 2 true 94 [0x4881, 2]) s)).latches[47] = ⟨0, 255, false⟩ := by
  decide +kernel
/-- R140: a live slot may not be disabled. -/
theorem test_mwriteSlot_state : (replyOf (after .mwriteSlot (taken (mwriteFrame 3 false 30 [0x0102]) case1))).map
    (fun r => (r.status, r.offset)) = some (.state, some 30) := by decide +kernel
/-- R5: block 40 of the adaptive path 0 may not be shared. -/
theorem test_mwritePath_plan :
    (replyOf (after .mwritePath (taken (mwriteFrame 4 true 1149 [0x4000, 0, 0x0428]) case1))).map
      (fun r => (r.status, r.offset)) = some (.plan, some 1149) := by decide +kernel
/-- R83: block 40 is protected. -/
theorem test_mwriteTaps_busy : (replyOf (after .mwriteTaps (taken (mwriteFrame 5 true 1278 [1, 2, 3]) case1))).map
    (fun r => (r.status, r.offset)) = some (.busy, some 1280) := by decide +kernel
/-- R167: without auto-increment the last word written stands. -/
theorem test_mwriteTaps_last : (after .mwriteTaps (taken (mwriteFrame 5 false 16383 [1, 2, 3]) base)).taps =
    [(16383, ⟨3, true⟩)] := by decide +kernel
theorem test_mwrite_mask : (after .mwrite (taken (mwriteFrame 8 true 12 [3]) base)).noticeMask[12] = true := by
  decide
/-- 10 section 10.7: the pending count and the walk position. -/
theorem test_mread_pending_count :
    let s := walking 40 { base with running := true, pathPending := [(0, PathEntry.reset), (1, PathEntry.reset)] }
    (replyOf (after .mread (taken (mreadFrame 7 false 1 3) s))).map Reply.payload = some [500, 0, 552] := by
  decide +kernel
/-- 10 section 10.7: offset 1413 lies beyond STATUS. -/
theorem test_mread_range : (replyOf (after .mread (taken (mreadFrame 7 false 4 1410) base))).map Reply.payload =
    some [500, 16387, 1413] := by decide +kernel
theorem test_mreadTaps :
    (after (.tapOperationComplete .o) (after .mreadTaps (taken (mreadFrame 5 false 2 1312) case1))).mgmt =
    .executing (mreadFrame 5 false 2 1312) (.reading (some [⟨32767, true⟩, ⟨10000, true⟩]) (some [])) := by
  decide +kernel
theorem test_mreadCountersClear :
    let s := incr (.port 0 .valid) base
    let t := after .mreadCountersClear (taken (mreadFrame 6 true 1 1) s)
    (replyOf t).map (·.data) = some [1] ∧ t.counters.read (.port 0 .valid) = 0 := by decide +kernel
/-- R171, R186: an event between two words shows in the second and not in the first. -/
theorem test_mreadCountersClear_word_by_word :
    let s := after .mreadCountersClear (taken (mreadFrame 6 true 2 0) (incr (.port 0 .received) base))
    let t := after .mreadCountersClear (incr (.port 0 .valid) (incr (.port 0 .received) s))
    (replyOf t).map (·.data) = some [1, 1] ∧ t.counters.read (.port 0 .received) = 1 ∧
      t.counters.read (.port 0 .valid) = 0 := by decide +kernel
/-- R55: 251 µs is refused. -/
theorem test_run : (after .run (taken (mactFrame 1 [250]) base)).timer = some 250 ∧
    (after .run (taken (mactFrame 1 [251]) base)).running = false := by decide +kernel
theorem test_stop : (after .stop (taken (mactFrame 2 []) { base with running := true, timer := some 40 })).timer =
    none := by
  decide
theorem test_restart : (after .restart (taken (mactFrame 3 []) case1)).channels[5] = ⟨.off, 0, none⟩ := by
  decide +kernel
theorem test_startSlot : (after .startSlot (taken (mactFrame 4 [5]) (channelAt 5 .off case1))).channels[5].state =
    .probe := by
  decide
theorem test_haltSlot : (after .haltSlot (taken (mactFrame 5 [5]) case1)).lanes[0].untimed = [⟨5, 100, false⟩] := by
  decide +kernel
theorem test_releaseSlot :
    (after .releaseSlot (taken (mactFrame 6 [5]) (channelAt 5 .retired case1))).channels[5].state =
    .off := by decide
theorem test_gainRestart : (after .gainRestart (taken (mactFrame 7 [5]) case1)).gain[5] = ⟨64, 0, none⟩ := by decide
theorem test_clearParity :
    let s := taken (mactFrame 8 []) { base with parityFlags := ⟨true, true, true⟩ }
    (after .clearParity s).parityFlags = ⟨false, false, false⟩ := by decide
theorem test_dump_reads_first_block :
    (after .executionComplete (after .dump (taken (mactFrame 9 [40, 41]) base))).bankE.busy.map (·.op) =
      some (.dumpRead 40) := by decide +kernel
/-- R85, R190: two failing words of one read, on an idle return line, are one notice with a count of 2. -/
theorem test_tapOperationComplete_counts_both :
    let s : State := { base with
      noticeMask := base.noticeMask.set 8 true
      bankO := ⟨some ⟨.dumpRead 41, [⟨1, false⟩, ⟨2, false⟩], 0⟩, none, none, none, none⟩ }
    (after (.tapOperationComplete .o) s).ret.line = some (.notice ⟨.parity, 1, 2⟩) := by decide +kernel
theorem test_laneReset : (after .laneReset (taken (mactFrame 10 [0]) (laneUp 0 none case1))).lanes[0].up = false := by
  decide +kernel
theorem test_portReset : (after .portReset (taken (mactFrame 11 [2]) (portAt 2 .passing none))).ports[2].mode =
    .dark := by
  decide
theorem test_executionComplete : (after .executionComplete (after .stop (taken (mactFrame 2 []) base))).ret.line =
    some (.reply ⟨9, .done, none, none, [], false⟩) := by decide
/-- R202: the first frame on the return is the REPLY to the first frame executed, also where that frame unmasks LANE-UP
and a lane comes up before EXECUTION_COMPLETE; the NOTICE waits. -/
theorem test_first_frame_is_reply :
    let s := after (.laneLinkLock 1) (after .mwrite (taken (mwriteFrame 8 false 2 [1]) base))
    s.ret.line = some (.reply ⟨7, .done, none, none, [], false⟩) ∧ s.mgmt = .idle ∧ s.notices = [⟨.laneUp, 1, 1⟩] := by
  decide +kernel
/-- R182: a REPLY goes before a NOTICE. -/
theorem test_returnTransmitEnd_prefers :
    let r : Reply := ⟨9, .done, none, none, [], false⟩
    let s : State := { base with
      notices := [⟨.portUp, 0, 1⟩]
      ret := ⟨some (.notice ⟨.laneUp, 0, 1⟩), some r, none⟩ }
    (after .returnTransmitEnd s).ret.line = some (.reply r) := by decide
/-- R190: an occurrence count stays at 255. -/
theorem test_raise_saturates :
    let s : State := { base with
      noticeMask := base.noticeMask.set 8 true
      notices := [⟨.parity, 2, 255⟩]
      ret := ⟨some (.notice ⟨.laneUp, 0, 1⟩), none, none⟩ }
    (raise .parity 2 s).notices = [⟨.parity, 2, 255⟩] := by decide

/-! ### Witnesses: states and operands that meet the hypotheses of the statements, clause by clause -/

theorem executing_taken {row : MgmtRow} {f : MgmtFrame} {s : State} (h : s.resetHeld = false)
    (hr : rowOf f = some row) : Executing row f (taken f s) := ⟨h, rfl, hr⟩

theorem base_path (i : Fin 384) : base.pathTable[i] = PathEntry.reset := by simp [base, State.reset]

theorem test_witness_StepRunsFrontCommand : ({ base with pending := [.run, .stop] } : State).pending = .run :: [.stop] ∧
    base.pending = [] := by decide

theorem test_witness_CommandsCompleteAndKeepQueue : (after .powerOnReset case1).resetHeld = true ∧
    (Instr.periodExpiry ≠ .powerOnReset ∧ Instr.periodExpiry ≠ .resetRelease) := by decide

theorem test_witness_PortLockAndTimers : base.resetHeld = false ∧ base.ports[(0 : Fin 8)].mode = .dark ∧
    base.ports[(7 : Fin 8)].mode = .off ∧ (portAt 7 .passing none).ports[(7 : Fin 8)].mode = .passing ∧
    (portAt 0 .qualifying none).ports[(0 : Fin 8)].mode = .qualifying ∧
    (portAt 7 .passing none).ports[(7 : Fin 8)].watchdog = some 10 ∧
    (portAt 7 .passing none).ports[(7 : Fin 8)].gate = some 0 := by decide

/-- The error threshold is 8: seven link errors before the next reach it, six do not. The three classes of a frame that
a misplaced start mark ends. -/
theorem test_witness_PortMarksAndErrors :
    let s (n : Nat) : State :=
      setPort 7 { (portAt 7 .passing none).ports[7] with linkErrors := n } (portAt 7 .passing none)
    (base.ports[(0 : Fin 8)].mode = .dark ∧ (s 7).ports[(7 : Fin 8)].mode = .passing) ∧
      (s 7).ports[(7 : Fin 8)].rx = none ∧
      (s 7).portTable[(7 : Fin 8)].errorThreshold ≤ (s 7).ports[(7 : Fin 8)].linkErrors + 1 ∧
      (s 6).ports[(7 : Fin 8)].linkErrors + 1 < (s 6).portTable[(7 : Fin 8)].errorThreshold ∧
      (portAt 0 .qualifying (some ⟨[4], true⟩)).ports[(0 : Fin 8)].rx = some ⟨[4], true⟩ ∧
      ∀ x ∈ [((⟨[], false⟩ : RxFrame), FrameClass.short), (⟨withCrc [header 1 0 0] ++ [9], false⟩, .babble),
        (⟨[0], false⟩, .format)], portClass 7 x.1 true = x.2 := by decide +kernel

/-- Kinds 0, 5 and 15; node 32; a management frame at another address, and at S7. Then headers that pass, with 0 and 31
payload words. -/
theorem test_witness_PortFrameChecks :
    (∀ x ∈ [((0 : Nat), (0 : Nat), (0 : Nat)), (5, 127, 31), (15, 0, 0), (1, 32, 31), (2, 1, 0), (4, 0, 31)],
      (x.1 < 16 ∧ x.2.1 < 128 ∧ x.2.2 < 32) ∧ ((x.1 = 0 ∨ 5 ≤ x.1) ∨ (x.1 = 1 ∧ 32 ≤ x.2.1) ∨
        (2 ≤ x.1 ∧ x.1 ≤ 4 ∧ (x.2.1 ≠ 0 ∨ (7 : Fin 8) ≠ 0)))) ∧
    (31 < 32 ∧ (List.replicate 31 (7 : Word)).length < 32) ∧ ([] : List Word).length < 32 ∧
    (0 : Word) ≠ crc16 [header 1 31 0] ∧ 1 < [header 1 31 0].length + 1 := by decide +kernel

theorem test_witness_PortTakesSampleFrame :
    let s (m : PortMode) : State := portAt 7 m (some (sampleFrame 31 (List.replicate 31 7)))
    (s .passing).resetHeld = false ∧ (s .passing).ports[(7 : Fin 8)].mode = .passing ∧
      (s .qualifying).ports[(7 : Fin 8)].mode = .qualifying ∧ (s .passing).ports[(7 : Fin 8)].rx =
        some ⟨withCrc (header 1 31 (List.replicate 31 (7 : Word)).length :: List.replicate 31 7), false⟩ :=
  ⟨rfl, by simp [portAt, setPort], by simp [portAt, setPort], by simp [portAt, setPort, sampleFrame]⟩

/-- A queue of 3 has room, one of 4 has none. -/
theorem test_witness_PortHandsOverManagement :
    let f (k : Nat) : RxFrame := ⟨withCrc [header k 0 0], false⟩
    let q (n : Nat) (k : Nat) : State := { portAt 0 .qualifying (some (f k)) with
      mgmtQueue := List.replicate n (mactFrame 2 []) }
    (q 3 2).ports[(0 : Fin 8)].rx = some ⟨withCrc (header 2 0 ([] : List Word).length :: []), false⟩ ∧
      (q 3 2).mgmtQueue.length < 4 ∧ (q 4 4).ports[(0 : Fin 8)].mode = .qualifying ∧ 4 ≤ (q 4 4).mgmtQueue.length := by
  decide +kernel

/-- The four classes; QUALIFYING, and PASSING with every pair of flags; a SAMPLE frame of node 31, and a frame that is
none. -/
theorem test_witness_PortFailingFrame :
    let f : RxFrame := ⟨withCrc (header 1 31 1 :: [5]), true⟩
    let e (strict accept : Bool) : State :=
      portEntry 7 (fun e => { e with strict := strict, acceptDamaged := accept }) (portAt 7 .passing (some f))
    (∀ x ∈ [(f, FrameClass.damaged), (⟨[], false⟩, .short), (⟨withCrc [header 1 0 0] ++ [9], false⟩, .babble),
        (⟨[0], false⟩, .format)], portClass 7 x.1 false = x.2) ∧
      (portAt 7 .qualifying (some f)).ports[(7 : Fin 8)].mode = .qualifying ∧
      (∀ a b : Bool, (e a b).ports[(7 : Fin 8)].mode = .passing ∧ (e a b).ports[(7 : Fin 8)].rx = some f ∧
        (e a b).portTable[(7 : Fin 8)].strict = a ∧ (e a b).portTable[(7 : Fin 8)].acceptDamaged = b) ∧
      f.words = header 1 31 [(5 : Word)].length :: [5] ++ [crc16 (header 1 31 1 :: [5])] ∧
        headerKind (0 : Word) ≠ 1 := by
  decide +kernel

/-- No pass, a pass at its last slot, and a pass past it. -/
theorem test_witness_PeriodExpiryBeginsOrCutsPass :
    let r : State := { base with running := true }
    base.running = false ∧ (r.pass.stage = .idle ∧ ∀ f, r.mgmt ≠ .executing f .restarting) ∧
      ((walking 95 r).pass.ending ≠ some .restart ∧ (walking 95 r).pass.walkPos < 96 ∧ (walking 95 r).pass.stage =
        .walk) ∧
      ((walking 96 r).pass.walkPos = 96 ∧ (walking 96 r).pass.waiting = 0 ∧ (walking 96 r).running = true) :=
  ⟨by decide, ⟨by decide, nofun⟩, by decide, by decide⟩

/-- A pass that goes on, one that an expiry has cut, and one that RESTART ends. -/
theorem test_witness_PassPushWritesHistory :
    let s (e : Option PassEnding) (n : Nat) : State := { case1 with
      pass := { base.pass with stage := .push, ending := e, waiting := n }, pushPos := 47 }
    let r : State := { s (some .restart) 0 with mgmt := .executing (mactFrame 3 []) .restarting }
    ((s none 0).resetHeld = false ∧ (s none 0).pass.stage = .push ∧ (s none 0).history.wf = true) ∧
      EndingHolds (s none 0) ∧ EndingHolds (s (some .overrun) 1) ∧ EndingHolds r ∧ r.pass.stage = .push :=
  ⟨by decide, ⟨by decide, by decide⟩, ⟨by decide, by decide⟩, ⟨by decide, by decide⟩, by decide⟩

/-- A slot passed over, a PROBE slot and a RUN slot with no path; a PROBE slot that has been read. -/
theorem test_witness_WalkServesWithoutPaths :
    let s : State := slotEntry 95 (fun e => { e with enabled := true }) (walking 95 base)
    (walking 95 base).slotTable[(95 : Fin 96)].enabled = false ∧ EndingHolds s ∧
      (s.slotTable[(95 : Fin 96)].enabled = true ∧
        s.pass.seq.toNat % s.slotTable[(95 : Fin 96)].divisor = s.slotTable[(95 : Fin 96)].phase) ∧
      (channelAt 95 .probe s).channels[(95 : Fin 96)].state = .probe ∧
      (channelAt 95 .run s).channels[(95 : Fin 96)].state = .run ∧
      (s.pass.comp = none ∧ (after .walkSlot (channelAt 95 .probe s)).pass.comp = some (.probe 95) ∧
        (after .walkSlot (channelAt 95 .probe s)).pass.walkPos = (95 : Fin 96).1) ∧
      ∀ i : Fin 384, s.pathTable[i].state = .enabled → s.pathTable[i].slot ≠ 95 := by
  refine ⟨by decide, ⟨by decide, by decide⟩, by decide, by decide, by decide, by decide +kernel, ?_⟩
  intro i
  simp [slotEntry, walking, base, State.reset, PathEntry.reset]

theorem test_witness_WalkBeginsComputation : case1.pass.walkPos = (5 : Fin 96).1 ∧ case1.pass.comp = none ∧
    case1.slotTable[(5 : Fin 96)].enabled = true ∧ case1.channels[(5 : Fin 96)].state = .run ∧
    case1.pass.seq.toNat % case1.slotTable[(5 : Fin 96)].divisor = case1.slotTable[(5 : Fin 96)].phase ∧
    case1.pathTable.toList.filter (fun x => x.state == .enabled && x.slot == 5) =
      ⟨.enabled, 5, 3, 40, 3, 0, true⟩ :: [⟨.enabled, 5, 7, 41, 2, 1, false⟩] := by decide +kernel

theorem test_witness_WalkAndPassFinish :
    let c : SlotComp := ⟨95, 15, 32767, -2 ^ 38, []⟩
    let t : State := { walking 95 base with pass := { (walking 95 base).pass with comp := some (.compute c) } }
    let o : State := { t with pass := { t.pass with ending := some .overrun, waiting := 2 } }
    (t.pass.stage = .walk ∧ t.pass.comp = some (.compute c) ∧ c.todo = []) ∧ EndingHolds t ∧
      (EndingHolds o ∧ o.pass.comp = some (.compute c)) ∧
      ((walking 96 base).pass.walkPos = 96 ∧ (walking 96 base).pass.comp = none ∧ (walking 96 base).pass.waiting = 0) ∧
      ∀ f, (walking 96 base).mgmt ≠ .executing f .restarting :=
  ⟨by decide, ⟨by decide, by decide⟩, ⟨⟨by decide, by decide⟩, by decide⟩, by decide, nofun⟩

theorem test_witness_RawCorrectionRounds : 15 ≤ 15 ∧ (-2 ^ 38 : Int) ≤ -2 ^ 38 ∧ (2 ^ 38 : Int) ≤ 2 ^ 38 := by decide

/-- An idle bank, a busy one, and one operation of each requester waiting; RESET_N is high. -/
theorem test_witness_BankArbiterPriority :
    let r : BankOp := .dumpRead 511
    let s (a b c d : Option BankOp) : State := { base with bankO := ⟨some ⟨r, [], 0⟩, a, b, c, d⟩ }
    base.bank .o = ⟨none, none, none, none, none⟩ ∧ ((s none none none none).bank .o).busy.isSome = true ∧
      ((s (some (.passRead 511 32)) (some r) none none).bank .o).waitPass = some (.passRead 511 32) ∧
      (((s none (some r) (some r) none).bank .o).waitPass = none ∧
        ((s none (some r) (some r) none).bank .o).waitAdapt = some r) ∧
      ((s none none (some r) (some r)).bank .o).waitDump = some r ∧
      ((s none none none (some (.mgmtRead true 16356 28))).bank .o).waitMgmt = some (.mgmtRead true 16356 28) ∧
      ((base.bank .o).busy = none ∧ base.resetHeld = false) ∧
      (((s (some r) none none none).bank .o).busy = some ⟨r, [], 0⟩ ∧ (s (some r) none none none).resetHeld = false) :=
  by decide

/-- One failing word of two, and a counter at 0, at 65535, and brought to 65535 by it. -/
theorem test_witness_ParityFailuresCount :
    let n := [(⟨1, true⟩ : StoredWord), ⟨2, false⟩].countP (fun w => !w.good)
    let before (v : Word) : Nat :=
      ((base.counters.write (.global .parityH) v).read (.global .parityH)).toNat
    (before 0 + n < 65535 ∧ before 65535 = 65535) ∧ 1 ≤ 1 ∧ 1 ≤ n ∧ before 65534 + 1 = 65535 := by decide +kernel

/-- A computation's last read, and one before it, a dump read waiting on the bank. -/
theorem test_witness_PassReadContributes :
    let c (more : List PathJob) : SlotComp := ⟨5, 0, 32767, 0, ⟨511, 1, some [3]⟩ :: more⟩
    let s (more : List PathJob) : State := { walking 5 base with
      bankO := ⟨some ⟨.passRead 511 1, [⟨2, false⟩], 0⟩, none, none, some (.dumpRead 511), none⟩
      pass := { (walking 5 base).pass with comp := some (.compute (c more)) } }
    ((s []).bank .o).busy = some ⟨.passRead 511 1, [⟨2, false⟩], 0⟩ ∧
      ((s []).pass.comp = some (.compute (c [])) ∧ (c []).todo = ⟨511, 1, some [3]⟩ :: []) ∧
      (s [⟨0, 32, none⟩]).pass.comp = some (.compute (c [⟨0, 32, none⟩])) ∧
      (c [⟨0, 32, none⟩]).todo = ⟨511, 1, some [3]⟩ :: ⟨0, 32, none⟩ :: [] := by decide

theorem test_witness_AdapterUpdateWhole :
    let bad : State := { base with taps := [(16383, ⟨1, false⟩)] }
    case1.taps.wf = true ∧ (∀ k < 32, (base.taps.read (511 * 32 + k)).good = true) ∧ bad.taps.wf = true ∧
      ¬ ∀ k < 32, (bad.taps.read (511 * 32 + k)).good = true := by decide +kernel

/-- The last block unprotected; two blocks; the first taps of the protected block 40; a part with
two words for one tap; and the last part's completion. -/
theorem test_witness_TapsWriteWritesBlock :
    let f := mwriteFrame 5 true 16356 (List.replicate 28 9)
    let g := mwriteFrame 5 false 1280 [1, 2]
    let h := mwriteFrame 5 true 1279 [1, 2]
    let u : State := { base with
      bankO := ⟨some ⟨.mgmtWrite [(32, 1)], [], 0⟩, none, none, none, none⟩, mgmt := .executing f (.writing (0 + 1)) }
    (Executing .mwriteTaps f (taken f base) ∧ f.writeFormatOk = true ∧ f.lastOffset < 16384 ∧
        f.offset / 32 = f.lastOffset / 32 ∧ base.pass.stage = .idle ∧ base.taps.wf = true ∧
        (∀ i : Fin 384, (projected base)[i].state ≠ .enabled) ∧
        base.bank (bankOf (f.offset / 32)) = ⟨none, none, none, none, none⟩) ∧
      (Executing .mwriteTaps g (taken g base) ∧ g.flag11 = false) ∧
      (Executing .mwriteTaps h (taken h base) ∧ h.lastOffset / 32 = h.offset / 32 + 1) ∧
      (Executing .mwriteTaps g (taken g case1) ∧ (projected case1)[(0 : Fin 384)].state = .enabled ∧
        (projected case1)[(0 : Fin 384)].adaptive = true ∧ (projected case1)[(0 : Fin 384)].block.1 = g.offset / 32) ∧
      ([(32, (1 : Word)), (32, 2)] = [(32, 1)] ++ (32, 2) :: [] ∧ ∀ z ∈ ([] : List (Nat × Word)), z.1 ≠ 32) ∧
      ((u.bank .o).busy = some ⟨.mgmtWrite [(32, 1)], [], 0⟩ ∧
        u.mgmt = .executing f (.writing (0 + 1))) :=
  ⟨⟨executing_taken rfl (by decide), by decide, by decide, by decide, by decide, by decide,
    fun i => by rw [show (projected base)[i] = PathEntry.reset from base_path i]; decide, by decide⟩,
    ⟨executing_taken rfl (by decide), by decide⟩, ⟨executing_taken rfl (by decide), by decide⟩,
    ⟨executing_taken rfl (by decide), by decide +kernel⟩, by decide, by decide⟩

/-- 28 taps of the last block; 28 taps of its two last blocks; the completion of a part. -/
theorem test_witness_TapsReadReturnsWords :
    let f := mreadFrame 5 false 28 16356
    let g := mreadFrame 5 false 28 16340
    let w : List StoredWord := [⟨1, false⟩]
    let u : State := { base with
      bankO := ⟨some ⟨.mgmtRead true 32 w.length, w, 0⟩, none, none, none, none⟩
      mgmt := .executing f (.reading none none) }
    (Executing .mreadTaps f (taken f base) ∧ f.flag11 = false ∧ f.count = 28 ∧ f.payload.length = 3 ∧
        f.offset + f.count ≤ 16384 ∧ f.count ≤ (f.offset / 32 + 1) * 32 - f.offset) ∧
      (Executing .mreadTaps g (taken g base) ∧ (g.offset / 32 + 1) * 32 - g.offset < g.count ∧ g.offset +
        g.count ≤ 16384) ∧
      (u.bank .o).busy = some ⟨.mgmtRead true 32 w.length, w, 0⟩ ∧
      u.mgmt = .executing f (.reading none none) :=
  ⟨⟨executing_taken rfl (by decide), by decide +kernel⟩, ⟨executing_taken rfl (by decide), by decide +kernel⟩,
    by decide⟩

/-- After reset no path is updated. -/
theorem no_adapts (t : Fin 96) (k : Fin 384) : ¬ Adapts base t k := by
  intro h
  have := h.1
  rw [show base.pathTable[k] = PathEntry.reset by simp [base, State.reset]] at this
  cases this

/-- Adaptation off; latenesses 32768, 32767, 9 and 8; an accepted report of lateness 8 whose slot learned last from the
report before it, with a path to update; and a slot that has none. -/
theorem test_witness_ReportTakeJudges :
    let l (q r : Word) : Nat := (q - r).toNat
    (base.slotTable[(0 : Fin 96)].adaptation = false ∧ case1.slotTable[(5 : Fin 96)].adaptation = true ∧
      l 100 (100 - 32768) = 32768 ∧ l 100 (100 - 32767) = 32767 ∧ l 100 91 = 9 ∧ l 100 92 = 8 ∧
      (case1.gain[(5 : Fin 96)].last = some 99 ∧ ((99 : Word) - 99).toNat = 0 ∧ ((100 : Word) - 99).toNat = 1) ∧
      ((8 : Word) - 32776).toNat = 32768 ∧
      (case1.pathTable[(0 : Fin 384)].state = .enabled ∧ case1.pathTable[(0 : Fin 384)].adaptive = true ∧
        case1.pathTable[(0 : Fin 384)].slot = 5) ∧
      ({ case1 with reports := [⟨5, 100, 1⟩] } : State).engine = none) ∧ ∀ k : Fin 384, ¬ Adapts base 5 k :=
  ⟨by decide +kernel, no_adapts 5⟩

/-- Path 0's oldest value at lateness 47, the last that is held, and at 48; an energy of 0, with no value pushed; no
path left; an update under way, and a push to come. -/
theorem test_witness_PathUpdateFormsDeltas :
    let s : State := { case1 with seq := 145, pass := base.pass, pushPos := 7 }
    let v (u : Bool) : Service := ⟨5, 100, -600, 64, 20, 0, u, false⟩
    let e := s.pathTable[(0 : Fin 384)]
    (((v true).updating = true ∧ ({ base.pass with stage := .push } : Pass).stage = .push) ∧
      (e.state = .enabled ∧ e.adaptive = true ∧ e.slot = (v false).slot) ∧ s.pass.stage ≠ .push ∧ s.pass.waiting = 0 ∧
      (s.seq - ((v false).seq - BitVec.ofNat 16 (e.delay + (e.taps - 1)))).toNat = 47 ∧
      (((List.range e.taps).map (fun k =>
        (s.history.read (e.source.1 * 48 + (s.pushPos + 48 - (45 + k) % 48) % 48)).value)).map
          (fun x => x.toInt.natAbs ^ 2)).sum ≠ 0 ∧
      (146 - ((v false).seq - BitVec.ofNat 16 (e.delay + (e.taps - 1)))).toNat = 48 ∧
      (base.history.read 152).value.toInt.natAbs ^ 2 = 0) ∧
      ∀ k : Fin 384, (v false).pathPos ≤ k.1 → ¬ Adapts base 5 k :=
  ⟨by decide +kernel, fun k _ => no_adapts 5 k⟩

theorem test_witness_NormalizationExponent : (List.replicate 32 (-32768 : Word)).length ≤ 32 ∧
    energy (List.replicate 32 (-32768 : Word)) ≠ 0 ∧ 8 ≤ 40 ∧ (1 : Nat) ≠ 0 := by decide +kernel

/-- A walk abandoned and one not, a dump read waiting on the bank; after path 383 no path is left. -/
theorem test_witness_UpdateCompletionStepsGain :
    let v (a : Bool) : Service := ⟨95, 0, 1, 16, 20, 383, true, a⟩
    let s (a : Bool) : State := { base with
      bankE := ⟨some ⟨.adaptUpdate 0 [1], [⟨0, true⟩], 0⟩, none, none, some (.dumpRead 0), none⟩, engine := some (v a) }
    (∀ a, ((s a).bank .e).busy = some ⟨.adaptUpdate 0 [1], [⟨0, true⟩], 0⟩ ∧ (s a).engine = some (v a) ∧
        (v a).abandon = a) ∧
      ∀ i : Fin 384, ¬ (v false).pathPos + 1 ≤ i.1 :=
  ⟨by decide, fun i h => absurd i.2 (Nat.not_lt.mpr h)⟩

theorem test_witness_LaneLockReports :
    let s := setChannel 95 ⟨.halted, 0, some .lane⟩ (slotEntry 95 (fun e => { e with autoResume := true }) base)
    (laneUp 3 none base).lanes[(3 : Fin 4)].up = true ∧ base.lanes[(3 : Fin 4)].up = false ∧ slotLane 95 = 3 ∧
      s.channels[(95 : Fin 96)].state = .halted ∧ s.channels[(95 : Fin 96)].cause = some .lane ∧
      s.slotTable[(95 : Fin 96)].autoResume = true := by decide

/-- A DOWN lane; an UP one, no frame and a frame; the threshold of 8 reached and not; the three classes of a frame that
a misplaced start mark ends. -/
theorem test_witness_LaneCollectsFrame :
    let s (n : Nat) (rx : Option RxFrame) : State := setLane 3 { (laneUp 3 rx base).lanes[3] with linkErrors := n } base
    base.lanes[(3 : Fin 4)].up = false ∧ ((s 7 none).lanes[(3 : Fin 4)].up = true ∧
      (s 7 none).lanes[(3 : Fin 4)].rx = none) ∧
      (s 0 (some ⟨[4], false⟩)).lanes[(3 : Fin 4)].rx = some ⟨[4], false⟩ ∧
      (s 6 none).lanes[(3 : Fin 4)].linkErrors + 1 < (s 6 none).laneTable[(3 : Fin 4)].errorThreshold ∧
      (s 7 none).laneTable[(3 : Fin 4)].errorThreshold ≤ (s 7 none).lanes[(3 : Fin 4)].linkErrors + 1 ∧
      ∀ x ∈ [((⟨[], false⟩ : RxFrame), FrameClass.short), (⟨withCrc [header 8 95 2, 1, 1] ++ [9], false⟩, .babble),
        (⟨[header 8 71 2], false⟩, .format)], laneClass 3 x.1 true = x.2 := by decide +kernel

/-- Slot 95 and sequence 65535, with and without report and sample: the record of that sequence, another one, none; the
report queue full and one short of it. -/
theorem test_witness_ValidAnswerMatchesOrIsDiscarded :
    ∀ (report : Option (Word × Word)) (sample : Option Word) (n : Nat) (rec : Option OutRecord),
      let payload : List Word := [65535, 3] ++ (match report with
        | some (r, e) => [r, e]
        | none => []) ++ sample.toList
      let f : RxFrame := ⟨withCrc (header 8 (95 : Fin 96).1 payload.length :: payload), false⟩
      let s : State := { setOutstanding 95 rec (laneUp 3 (some f) base) with reports := List.replicate n ⟨0, 0, 0⟩ }
      (s.resetHeld = false ∧ s.lanes[(3 : Fin 4)].up = true ∧ slotLane 95 = 3 ∧ s.lanes[(3 : Fin 4)].rx = some f) ∧
        s.outstanding[(95 : Fin 96)] = rec ∧ s.reports.length = n ∧
        (⟨.probe, 65535, 20⟩ : OutRecord).seq = 65535 ∧ (⟨.probe, 65534, 20⟩ : OutRecord).seq ≠ 65535 := by
  intro report sample n rec
  refine ⟨⟨rfl, ?_, by decide, ?_⟩, ?_, ?_, by decide, by decide⟩ <;> simp [laneUp, setLane, setOutstanding]

/-- Another kind, slots of the lanes beside, lengths 1 and 6; headers that pass, with 2 and 5 payload words; the four
classes at an end mark; and the threshold of 8 reached and not. -/
theorem test_witness_LaneDiscardsFailingFrame :
    let s (n : Nat) (f : RxFrame) : State :=
      setLane 2 { (laneUp 2 (some f) base).lanes[2] with linkErrors := n } base
    let f : RxFrame := ⟨withCrc [header 8 71 2, 1, 1] ++ [9], false⟩
    (∀ x ∈ [((9 : Nat), (71 : Nat), (2 : Nat)), (8, 47, 2), (8, 72, 5), (8, 71, 1), (8, 71, 6)],
      (x.1 < 16 ∧ x.2.1 < 128 ∧ x.2.2 < 32) ∧
        (x.1 ≠ 8 ∨ x.2.1 < 24 * (2 : Fin 4).1 ∨ 24 * (2 : Fin 4).1 + 23 < x.2.1 ∨ x.2.2 < 2 ∨ 5 < x.2.2)) ∧
      (slotLane 71 = 2 ∧ 2 ≤ [(1 : Word), 1].length ∧ [(1 : Word), 4, 1, 1, 1].length ≤ 5 ∧
        (0 : Word) ≠ crc16 [header 8 71 2, 1, 1]) ∧
      (∀ x ∈ [((⟨withCrc [header 8 71 2, 1, 1], true⟩ : RxFrame), FrameClass.damaged), (⟨[], false⟩, .short),
        (⟨withCrc [header 8 71 2, 1, 4], false⟩, .format), (f, .babble)], laneClass 2 x.1 false = x.2) ∧
      ((s 7 f).lanes[(2 : Fin 4)].up = true ∧ (s 7 f).lanes[(2 : Fin 4)].rx = some f) ∧
      (s 6 f).lanes[(2 : Fin 4)].linkErrors + 1 < (s 6 f).laneTable[(2 : Fin 4)].errorThreshold ∧
      (s 7 f).laneTable[(2 : Fin 4)].errorThreshold ≤ (s 7 f).lanes[(2 : Fin 4)].linkErrors + 1 := by decide +kernel

theorem test_witness_ChannelTakesStatus : ∀ st : ChannelState,
    (channelAt 95 st base).channels[(95 : Fin 96)].state = st := by
  intro st; cases st <;> decide

/-- A frame that will enter a record and one that will not; the second and the third miss; and expiries in HALTING. -/
theorem test_witness_LaneRecordsComeAndGo :
    let x (b : Bool) : LaneTx := ⟨.probe 95 9, b⟩
    let s (k : SentKind) (st : ChannelState) (n : Nat) : State :=
      setOutstanding 95 (some ⟨k, 9, 20⟩) (setChannel 95 ⟨st, n, none⟩ base)
    (∀ b, (setLane 3 { base.lanes[3] with tx := some (x b) } base).lanes[(3 : Fin 4)].tx = some (x b)) ∧
      slotLane 95 = 3 ∧
      ((s .correct .run 1).outstanding[(95 : Fin 96)] = some ⟨.correct, 9, 20⟩ ∧
        (s .correct .run 1).channels[(95 : Fin 96)].miss = 1) ∧
      (s .probe .probe 2).channels[(95 : Fin 96)] = ⟨.probe, 2, none⟩ ∧
      (s .correct .halting 0).channels[(95 : Fin 96)].state = .halting ∧
      (s .halt .halting 0).outstanding[(95 : Fin 96)] = some ⟨.halt, 9, 20⟩ := by decide

/-- A DOWN lane; and on an UP lane an aged HALT, only timed entries, a HALT not aged, and nothing. -/
theorem test_witness_LaneArbiterPrefers :
    let s (t : List TimedEntry) (h : List HaltEntry) : State :=
      setLane 0 { base.lanes[0] with up := true, timed := t, untimed := h } base
    base.lanes[(0 : Fin 4)].up = false ∧ ((s [] []).lanes[(0 : Fin 4)].up = true ∧ (s [] []).lanes[(0 : Fin 4)].tx =
      none) ∧
      ((s [⟨0, 1, .probe⟩] [⟨5, 1, true⟩]).lanes[(0 : Fin 4)].untimed = [] ++ ⟨5, 1, true⟩ :: [] ∧
        base.outstanding[(5 : Fin 96)] = none) ∧
      ((s [⟨0, 1, .probe⟩] [⟨5, 1, false⟩]).lanes[(0 : Fin 4)].timed = [] ++ ⟨0, 1, .probe⟩ :: [] ∧
        ∀ x ∈ [(⟨5, 1, false⟩ : HaltEntry)], ¬ x.aged = true) ∧
      (s [] [⟨23, 1, false⟩]).lanes[(0 : Fin 4)].untimed = [] ++ ⟨23, 1, false⟩ :: [] := by decide

theorem test_witness_HandOverJoinsQueue : case1.channels[(5 : Fin 96)].state = .run ∧
    (channelAt 95 .probe base).channels[(95 : Fin 96)].state = .probe ∧ base.channels[(0 : Fin 96)].state = .off :=
      by decide

/-- A frame with a row; MACTs of 1 and 5 payload words and of codes 0 and 12; one frame of each kind; actions with an
argument missing, and with the first one out of range. -/
theorem test_witness_ManagementTakesByCode :
    (rowOf (mactFrame 11 [0])).isSome = true ∧
      (headerKind (⟨header 4 0 1, [9]⟩ : MgmtFrame).header = 4 ∧ (⟨header 4 0 1, [9]⟩ : MgmtFrame).payload.length < 2) ∧
      4 < (mactFrame 1 [1, 2, 3]).payload.length ∧ ((mactFrame 0 []).word 1).toNat = 0 ∧
      11 < ((mactFrame 12 []).word 1).toNat ∧ headerKind (mwriteFrame 1 true 0 [1]).header = 2 ∧
      headerKind (mreadFrame 5 false 1 0).header = 3 ∧
      (headerKind (mactFrame 11 [0]).header = 4 ∧ ((mactFrame 11 [0]).word 1).toNat = 11 ∧
        2 ≤ (mactFrame 1 []).payload.length) ∧
      (∀ x ∈ [(MgmtRow.startSlot, mactFrame 4 []), (.portReset, mactFrame 11 []), (.run, mactFrame 1 []),
        (.dump, mactFrame 9 [])], Executing x.1 x.2 (taken x.2 base) ∧ x.2.payload[2]? = none) ∧
      (∀ x ∈ [(MgmtRow.startSlot, mactFrame 4 [96], (96 : Word)), (.portReset, mactFrame 11 [8], 8), (.laneReset,
        mactFrame 10 [4], 4),
        (.dump, mactFrame 9 [512, 0], 512)], Executing x.1 x.2.1 (taken x.2.1 base) ∧ x.2.1.payload[2]? = some x.2.2) ∧
      (mactFrame 9 [512, 0]).payload[3]? = some 0 ∧ 512 ≤ (512 : Word).toNat ∧ (mactFrame 9 [0]).payload[3]? =
        none := by
  refine ⟨by decide, by decide, by decide, by decide, by decide, by decide, by decide, by decide, ?_, ?_, by decide⟩ <;>
    (intro x hx
     simp only [List.mem_cons, List.not_mem_nil, or_false] at hx
     rcases hx with rfl | rfl | rfl | rfl <;> exact ⟨executing_taken rfl (by decide), by decide⟩)

/-- The four complete executions, the reply place empty and full; and the others. -/
theorem test_witness_ExecutionCompletes :
    let r : Reply := ⟨9, .done, none, none, [], true⟩
    let f := mactFrame 3 []
    let s (ph : Phase) : State := { base with mgmt := .executing f ph }
    (∀ ph ∈ [Phase.finished r, .writing 0, .reading (some [⟨1, false⟩]) (some []), .restarting, .taken, .collecting [1],
        .writing (0 + 1), .reading none none], (s ph).resetHeld = false ∧ (s ph).mgmt = .executing f ph) ∧
      (base.pass.stage = .idle ∧ (∀ v, base.engine = some v → v.abandon = false) ∧ base.dump.aborting = false) ∧
      (base.ret.replyPlace = none ∧
        ({ base with ret := ⟨some (.reply r), some r, none⟩ } : State).ret.replyPlace.isSome = true) ∧
      base.mgmt = .idle ∧ (walking 5 (s .restarting)).pass.stage ≠ .idle :=
  ⟨by intro ph _; exact ⟨rfl, rfl⟩, ⟨by decide, nofun, by decide⟩, by decide, by decide, by decide⟩

/-- A frame refused with RANGE; frames of no data word and of 29, and reads of 0 and 29 words, of a table of no code,
with the clear flag on PORT; and reads and writes of the last word and the one beyond it. -/
theorem test_witness_RefusedFrameChangesNothing :
    let f := mwriteFrame 1 true 47 [1, 1]
    (Executing .mwritePort f (taken f base) ∧ (after .mwritePort (taken f base)).mgmt =
      .executing f (.finished ⟨7, .range, none, some 48, [], false⟩) ∧ Status.range ≠ .done) ∧
      ((mwriteFrame 5 true 0 []).payload.length < 4 ∧
        31 < (mwriteFrame 5 true 0 (List.replicate 29 1)).payload.length) ∧
      (f.table = 1 ∧ 48 ≤ f.offset + (f.payload.length - 4)) ∧ (mwriteFrame 9 true 0 [1]).table = 9 ∧
      ((mreadFrame 5 false 0 0).count = 0 ∧ 28 < (mreadFrame 5 false 29 0).count ∧ (mreadFrame 9 false 1 0).table = 9 ∧
        (mreadFrame 1 true 1 0).flag11 = true) ∧
      ((mreadFrame 6 true 2 1307).table = 6 ∧ 1308 < (mreadFrame 6 true 2 1307).offset +
        (mreadFrame 6 true 2 1307).count) ∧
      (∀ x ∈ [(MgmtRow.mwriteTaps, mwriteFrame 5 true 0 []), (.mwrite, mwriteFrame 9 true 0 [1]), (.mread,
        mreadFrame 9 false 1 0),
        (.mreadTaps, mreadFrame 5 false 29 0), (.mreadCountersClear, mreadFrame 6 true 2 1307)],
        Executing x.1 x.2 (taken x.2 base)) := by
  refine ⟨⟨executing_taken rfl (by decide), by decide +kernel⟩, by decide, by decide, by decide, by decide +kernel,
    by decide +kernel, ?_⟩
  intro x hx
  simp only [List.mem_cons, List.not_mem_nil, or_false] at hx
  rcases hx with rfl | rfl | rfl | rfl | rfl <;> exact executing_taken rfl (by decide)

/-- Offset 4 under auto-increment supplies words 0 and 1 of entry 1 of width 4, and not word 2. -/
theorem test_witness_EntryAssemblyAndLayouts :
    let f := mwriteFrame 1 true 4 [1, 2]
    let g := mwriteFrame 1 false 5 [1, 2]
    (f.flag11 = true ∧ f.offset + 1 = 1 * 4 + 1 ∧ f.data[1]? = some 2 ∧ f.offset + f.data.length ≤ 1 * 4 + 2) ∧
      (g.flag11 = false ∧ g.offset = 1 * 4 + 1 ∧ g.data.getLast? = some 2 ∧ g.offset ≠ 1 * 4 + 2) ∧
      ([0, 0, 0, 0] : List Word)[3]? = some 0 ∧ PortEntry.reset.inRange = true ∧ LaneEntry.reset.inRange = true ∧
      SourceEntry.reset.inRange = true ∧ SlotEntry.reset.inRange = true ∧ PathEntry.reset.inRange = true := by decide

/-- A write of lane 3's window that touches no port, one that enables S7, and one that leaves S7 a pass threshold of 0.
-/
theorem test_witness_PortWriteApplies :
    let f := mwriteFrame 1 false 45 [60]
    let g := mwriteFrame 1 false 28 [0x8088]
    let h := mwriteFrame 1 false 28 [8]
    (Executing .mwritePort f (taken f base) ∧ f.writeFormatOk = true ∧ f.lastOffset < 48 ∧
        (∀ p : Fin 8, f.touches 4 p.1 = false) ∧ (laneImage f 11 base.laneTable[(3 : Fin 4)]).isSome = true) ∧
      (Executing .mwritePort g (taken g base) ∧ g.offset / 4 = 7 ∧ g.lastOffset / 4 = 7 ∧
        portImage g 7 base.portTable[(7 : Fin 8)] = some { PortEntry.reset with enabled := true }) ∧
      (Executing .mwritePort h (taken h base) ∧ h.touches 4 7 = true ∧ portImage h 7 base.portTable[(7 : Fin 8)] =
        none ∧
        ∀ x < 7, h.touches 4 x = false) :=
  ⟨⟨executing_taken rfl (by decide), by decide +kernel⟩, ⟨executing_taken rfl (by decide), by decide +kernel⟩,
    executing_taken rfl (by decide), by decide +kernel⟩

/-- An entry that shares no key; one that takes the key of source 46; and one of kind code 3. -/
theorem test_witness_SourceWriteApplies :
    let f := mwriteFrame 2 true 94 [0x4881, 2]
    let g := mwriteFrame 2 false 94 [0xC000]
    let e : SourceEntry := ⟨.sensor, 2, 4, 1, 0, false, 2⟩
    let s : State := { base with sourceTable := base.sourceTable.set 46 e }
    let clash (t : Vector SourceEntry 48) (x : Fin 48) : Prop := ∃ y : Fin 48, y ≠ x ∧
      ((t[x].kind = .sensor ∧ t[y].kind = .sensor ∧ t[x].port = t[y].port ∧ t[x].node = t[y].node ∧
          t[x].channel = t[y].channel) ∨
        (t[x].kind = .aggressor ∧ t[y].kind = .aggressor ∧ t[x].slot = t[y].slot))
    (Executing .mwriteSource f (taken f base) ∧ f.writeFormatOk = true ∧ f.lastOffset < 96) ∧
      (∀ q : Fin 48, some (base.sourceTable.set 47 e)[q] =
        if f.touches 2 q then sourceImage f q base.sourceTable[q] else some base.sourceTable[q]) ∧
      (∀ x : Fin 48, f.touches 2 x = true → ¬ clash (base.sourceTable.set 47 e) x) ∧
      (Executing .mwriteSource f (taken f s) ∧ clash (s.sourceTable.set 47 e) 47) ∧
      (∀ q : Fin 48, some (s.sourceTable.set 47 e)[q] =
        if f.touches 2 q then sourceImage f q s.sourceTable[q] else some s.sourceTable[q]) ∧
      (∀ x : Fin 48, x < 47 → f.touches 2 x = false) ∧
      (Executing .mwriteSource g (taken g base) ∧ g.touches 2 47 = true ∧
        sourceImage g 47 base.sourceTable[(47 : Fin 48)] = none) :=
  ⟨⟨executing_taken rfl (by decide), by decide⟩, by decide +kernel, by decide +kernel,
    ⟨executing_taken rfl (by decide), ⟨46, by decide, .inl (by decide +kernel)⟩⟩, by decide +kernel, by decide +kernel,
    executing_taken rfl (by decide), by decide +kernel⟩

/-- New bounds for slot 95; slot 5 of Case 1 disabled in RUN; and a limit of 0. -/
theorem test_witness_SlotWriteApplies :
    let g := mwriteFrame 3 true 572 [0x2020, 0x2014]
    let table : Vector SlotEntry 96 :=
      base.slotTable.set 95 { SlotEntry.reset with muFloor := 32, muCeiling := 32, muStart := 32 }
    let d := mwriteFrame 3 false 30 [0x0102]
    let off : Vector SlotEntry 96 :=
      case1.slotTable.set 5 { case1.slotTable[5] with enabled := false, adaptation := false }
    let h := mwriteFrame 3 false 571 [0]
    (Executing .mwriteSlot g (taken g base) ∧ g.writeFormatOk = true ∧ g.lastOffset < 576) ∧
      (∀ n : Fin 96, some table[n] =
        if g.touches 6 n then slotImage g n base.slotTable[n] else some base.slotTable[n]) ∧
      (∀ n : Fin 96, ¬ (base.slotTable[n].enabled = true ∧ table[n].enabled = false ∧ base.channels[n].state ≠ .off)) ∧
      (Executing .mwriteSlot d (taken d case1) ∧ d.writeFormatOk = true) ∧
      (∀ n : Fin 96, some off[n] =
        if d.touches 6 n then slotImage d n case1.slotTable[n] else some case1.slotTable[n]) ∧
      (case1.slotTable[(5 : Fin 96)].enabled = true ∧ off[(5 : Fin 96)].enabled = false ∧
        case1.channels[(5 : Fin 96)].state ≠ .off) ∧
      (∀ x : Fin 96, x < 5 → case1.slotTable[x].enabled = false) ∧
      (Executing .mwriteSlot h (taken h base) ∧ h.touches 6 95 = true ∧
        slotImage h 95 base.slotTable[(95 : Fin 96)] = none) :=
  ⟨⟨executing_taken rfl (by decide), by decide⟩, by decide +kernel, by decide +kernel,
    ⟨executing_taken rfl (by decide), by decide⟩, by decide +kernel, by decide +kernel, by decide +kernel,
    executing_taken rfl (by decide), by decide +kernel⟩

theorem same_updates (n : Nat) : applyUpdates base.pathTable (List.replicate n (0, PathEntry.reset)) =
    base.pathTable := by
  induction n with
  | zero => rfl
  | succ n ih =>
    have : base.pathTable.set (0 : Fin 384) PathEntry.reset = base.pathTable := by
      apply Vector.ext
      intro i hi
      simp [base, State.reset]
    simp only [List.replicate_succ, applyUpdates, this, ih]

theorem few_enabled (e : PathEntry) (slot : Fin 96) : enabledPaths (base.pathTable.set 383 e) slot ≤ 8 := by
  have h : base.pathTable.toList = List.replicate 384 PathEntry.reset := Vector.toList_replicate
  have hz : ∀ n, (List.replicate n PathEntry.reset).countP (fun e => e.state == .enabled && e.slot == slot) = 0 := by
    intro n
    rw [List.countP_replicate]; rfl
  unfold enabledPaths
  rw [Vector.toList_set, h, List.countP_set (by rw [List.length_replicate]; omega), hz]
  split <;> split <;> omega

def pathFrame : MgmtFrame := mwriteFrame 4 true 1149 [0x4000, 0, 0x0428]

/-- Entry 383 enabled with block 40. -/
def with383 (s : State) : Vector PathEntry 384 := s.pathTable.set 383 ⟨.enabled, 0, 0, 40, 1, 0, false⟩

/-- STOPPED, and RUNNING with 15 updates pending and with 16; and 0 taps. -/
theorem test_witness_PathWriteApplies :
    let g := mwriteFrame 4 false 1151 [0]
    let r (n : Nat) : State := { base with running := true, pathPending := List.replicate n (0, PathEntry.reset) }
    (Executing .mwritePath pathFrame (taken pathFrame base) ∧ pathFrame.writeFormatOk = true ∧
      pathFrame.lastOffset < 1152 ∧
        base.running = false ∧ base.pathPending = []) ∧
      (∀ n, Executing .mwritePath pathFrame (taken pathFrame (r n)) ∧ (r n).running = true ∧
        projected (r n) = base.pathTable ∧ (r n).pathPending.length = n) ∧
      (Executing .mwritePath g (taken g base) ∧ g.touches 3 383 = true ∧
        pathImage g 383 base.pathTable[(383 : Fin 384)] = none) :=
  ⟨⟨executing_taken rfl (by decide), by decide⟩,
    fun n => ⟨executing_taken rfl (by decide), rfl, same_updates n, List.length_replicate⟩,
      executing_taken rfl (by decide),
    by decide +kernel⟩

theorem pathFrame_touches (i : Fin 384) : pathFrame.touches 3 i = decide (i = 383) := by
  have h : pathFrame.touches 3 i = decide (383 ≤ i.1 ∧ i.1 ≤ 383) := by simp only [Bool.decide_and]; rfl
  rw [h, decide_eq_decide]
  exact ⟨fun h => Fin.ext (Nat.le_antisymm h.2 h.1), fun h => h ▸ by decide⟩

theorem with383_get (s : State) (i : Fin 384) :
    (with383 s)[i] = if i = 383 then ⟨.enabled, 0, 0, 40, 1, 0, false⟩ else s.pathTable[i] := by
  by_cases hi : i = 383
  · subst hi; simp [with383]
  · have : (383 : Nat) ≠ i.1 := fun h => hi (Fin.ext h.symm)
    simp [hi, this, with383]

/-- The resulting tables: from reset, and from Case 1. -/
theorem test_witness_PathWriteApplies_tables (s : State) (h : s = base ∨ s = case1) (i : Fin 384) :
    some (with383 s)[i] =
      if pathFrame.touches 3 i then pathImage pathFrame i s.pathTable[i] else some s.pathTable[i] := by
  rw [with383_get, pathFrame_touches]
  by_cases hi : i = 383
  · subst hi; rcases h with rfl | rfl <;> decide +kernel
  · simp [hi]

/-- The write touches one entry: there is room for it beside 15 pending updates and not beside 16. -/
theorem test_witness_PathWriteApplies_room :
    ((List.finRange 384).filter (fun i : Fin 384 => pathFrame.touches 3 i.1)).length = 1 := by
  rw [List.filter_congr (fun i _ => pathFrame_touches i)]
  decide +kernel

/-- From reset no block is shared; from Case 1 block 40 is, with the adaptive path 0. -/
theorem test_witness_PathWriteApplies_plan :
    (∀ y : Fin 384, y ≠ 383 → (with383 base)[y].state ≠ .enabled) ∧ enabledPaths (with383 base) 0 ≤ 8 ∧
      (with383 case1)[(0 : Fin 384)].state = .enabled ∧ (with383 case1)[(0 : Fin 384)].adaptive = true ∧
      (with383 case1)[(0 : Fin 384)].block = (with383 case1)[(383 : Fin 384)].block :=
  ⟨fun y hy => by rw [with383_get, if_neg hy, base_path]; decide, few_enabled _ _, by decide +kernel⟩

/-- The last words of PORT; the last of STATUS, its first word and the word after 27. -/
theorem test_witness_ReadRepliesWords :
    let f := mreadFrame 1 false 28 20
    let g := mreadFrame 7 false 28 1385
    let ws : List Word := List.replicate 27 5
    (Executing .mread f (taken f base) ∧ f.payload.length = 3 ∧ f.flag11 = false ∧ f.count = 28 ∧ f.table = 1 ∧
        f.offset + f.count = 48) ∧
      (Executing .mread g (taken g base) ∧ g.payload.length = 3 ∧ g.flag11 = false ∧ g.count = 28 ∧ g.table = 7 ∧
        g.offset + g.count = 1413) ∧
      ({ base with mgmt := .executing g (.collecting ws) } : State).mgmt = .executing g (.collecting ws) :=
  ⟨⟨executing_taken rfl (by decide), by decide +kernel⟩, ⟨executing_taken rfl (by decide), by decide +kernel⟩, rfl⟩

theorem test_witness_CountersReadClears :
    let f := mreadFrame 6 true 28 1280
    (Executing .mreadCountersClear f (taken f base) ∧ f.count = 28 ∧ f.offset + f.count = 1308) ∧
      ({ base with mgmt := .executing f (.collecting [1]) } : State).mgmt = .executing f (.collecting [1]) :=
  ⟨⟨executing_taken rfl (by decide), by decide +kernel⟩, rfl⟩

theorem test_witness_MaskWriteApplies :
    let f := mwriteFrame 8 true 0 (List.replicate 13 1)
    let g := mwriteFrame 7 true 0 [1]
    (Executing .mwrite f (taken f base) ∧ f.writeFormatOk = true ∧ f.table = 8 ∧ f.lastOffset = 12) ∧
      (Executing .mwrite g (taken g base) ∧ g.writeFormatOk = true ∧ g.table = 7) :=
  ⟨⟨executing_taken rfl (by decide), by decide +kernel⟩, executing_taken rfl (by decide), by decide +kernel⟩

/-- RUN of 16, 250, 0, 15 and 251; STOP; CLEAR-PARITY; GAIN-RESTART of slots 95 and 96. -/
theorem test_witness_SimpleActions :
    (∀ a ∈ [(16 : Word), 250, 0, 15, 251], Executing .run (mactFrame 1 [a]) (taken (mactFrame 1 [a]) base) ∧
        (mactFrame 1 [a]).arg1 = some a.toNat) ∧
      Executing .stop (mactFrame 2 []) (taken (mactFrame 2 []) base) ∧
      Executing .clearParity (mactFrame 8 []) (taken (mactFrame 8 []) base) ∧
      ∀ a ∈ [(95 : Word), 96], Executing .gainRestart (mactFrame 7 [a]) (taken (mactFrame 7 [a]) base) ∧
        (mactFrame 7 [a]).arg1 = some a.toNat :=
  ⟨by
    intro a ha
    simp only [List.mem_cons, List.not_mem_nil, or_false] at ha
    rcases ha with rfl | rfl | rfl | rfl | rfl <;> exact ⟨executing_taken rfl (by decide), by decide⟩,
  executing_taken rfl (by decide), executing_taken rfl (by decide), by
    intro a ha
    simp only [List.mem_cons, List.not_mem_nil, or_false] at ha
    rcases ha with rfl | rfl <;> exact ⟨executing_taken rfl (by decide), by decide⟩⟩

/-- With no dump read out and with one; no pass, a pass in its push and one past its last slot; the dump states that
are aborted at once. -/
theorem test_witness_RestartResets :
    let f := mactFrame 3 []
    let d : DumpFrame := ⟨511, false, true, false, []⟩
    let o : State := { base with bankO := ⟨some ⟨.dumpRead 511, [], 0⟩, none, none, none, none⟩ }
    let out (s : State) : Prop := ∃ b : BankId, (s.bank b).waitDump.isSome = true ∨
      ∃ u blk, (s.bank b).busy = some u ∧ u.op = .dumpRead blk
    (∀ s : State, s.resetHeld = false → Executing .restart f (taken f s)) ∧ (false = true ↔ out base) ∧
      (true = true ↔ out o) ∧
      (base.pass.stage = .idle ∧ (walking 96 base).pass.stage = .walk ∧ (walking 96 base).pass.walkPos = 96 ∧
        (walking 96 base).pass.waiting = 0 ∧ ({ base.pass with stage := .push } : Pass).walkPos ≤ 96) ∧
      (⟨.holding, 0, 511, some d, false⟩ : Dump).state = .holding ∧
        (⟨none, none, some d⟩ : Return).dumpPlace.isSome = true :=
  ⟨fun _ h => executing_taken h (by decide),
    ⟨nofun, fun ⟨b, h⟩ => by cases b <;> simp [base, State.reset, State.bank, Bank.reset] at h⟩,
    ⟨fun _ => ⟨.o, .inr ⟨_, 511, rfl, rfl⟩⟩, fun _ => rfl⟩, by decide, by decide, by decide⟩

/-- The three actions on slot 95, whose channel is in any given state; a full untimed queue is 8 entries. -/
theorem test_witness_ChannelActions : ∀ st : ChannelState,
    Executing .startSlot (mactFrame 4 [95]) (taken (mactFrame 4 [95]) (channelAt 95 st base)) ∧
      Executing .haltSlot (mactFrame 5 [95]) (taken (mactFrame 5 [95]) (channelAt 95 st base)) ∧
      Executing .releaseSlot (mactFrame 6 [95]) (taken (mactFrame 6 [95]) (channelAt 95 st base)) ∧
      (mactFrame 4 [95]).arg1 = some (95 : Fin 96).1 :=
  fun _ => ⟨executing_taken rfl (by decide), executing_taken rfl (by decide), executing_taken rfl (by decide),
    by decide⟩

theorem test_witness_LaneAndPortReset :
    Executing .laneReset (mactFrame 10 [3]) (taken (mactFrame 10 [3]) (laneUp 3 none base)) ∧
      Executing .portReset (mactFrame 11 [7]) (taken (mactFrame 11 [7]) (portAt 7 .passing none)) ∧
      (mactFrame 10 [3]).arg1 = some (3 : Fin 4).1 ∧ (mactFrame 11 [7]).arg1 = some (7 : Fin 8).1 :=
  ⟨executing_taken rfl (by decide), executing_taken rfl (by decide), by decide, by decide⟩

/-- Blocks 0 to 511, 511 to 511 and 511 to 0; the read of the last block and of one before it, the dump place empty and
full, the dump aborted and not; the end of the LAST frame. -/
theorem test_witness_DumpStartsAndFinishes :
    let f := mactFrame 9 [0, 511]
    let g := mactFrame 9 [511, 0]
    let d : DumpFrame := ⟨511, false, true, false, []⟩
    let w : List StoredWord := [⟨1, false⟩]
    let s (blk : Fin 512) (place : Option DumpFrame) (aborting : Bool) : State := { base with
      bankO := ⟨some ⟨.dumpRead blk, w, 0⟩, some (.passRead 511 1), none, none, none⟩
      ret := ⟨some (.dump d), none, place⟩
      dump := ⟨.reading, blk, 511, none, aborting⟩ }
    let u : State := { base with ret := ⟨some (.dump d), none, none⟩, dump := ⟨.finishing, 511, 511, none, false⟩ }
    (Executing .dump f (taken f base) ∧ f.arg1 = some (0 : Fin 512).1 ∧ f.arg2 = some (511 : Fin 512).1 ∧
      base.dump.state = .idle ∧
        u.dump.state ≠ .idle) ∧
      (Executing .dump g (taken g base) ∧ g.arg1 = some (511 : Fin 512).1 ∧ (0 : Fin 512) < 511) ∧
      (∀ blk place aborting, ((s blk place aborting).bank .o).busy = some ⟨.dumpRead blk, w, 0⟩ ∧
        (s blk place aborting).dump.aborting = aborting ∧ (s blk place aborting).ret.dumpPlace = place ∧
        (s blk place aborting).dump.last = 511) ∧
      (u.ret.line = some (.dump d) ∧ d.last = true ∧ u.dump.state = .finishing ∧ u.ret.dumpPlace = none) :=
  ⟨⟨executing_taken rfl (by decide), by decide +kernel⟩, ⟨executing_taken rfl (by decide), by decide +kernel⟩,
    fun _ _ _ => ⟨rfl, rfl, rfl, rfl⟩, by decide⟩

/-- On a free line a REPLY waits, one behind it held or not; one is ready and a NOTICE waits; only a NOTICE; only a DUMP
frame, one behind it held or not; nothing. -/
theorem test_witness_ReturnChoosesNext :
    let r : Reply := ⟨9, .done, none, none, [], true⟩
    let d : DumpFrame := ⟨0, false, true, false, []⟩
    let f := mactFrame 9 [0, 0]
    let s (a : Option Reply) (n : List Notice) (b : Option DumpFrame) (m : Mgmt) (h : Option DumpFrame) : State :=
      { base with notices := n, ret := ⟨none, a, b⟩, mgmt := m, dump := ⟨.holding, 0, 0, h, false⟩ }
    ((s (some r) [⟨.parity, 2, 255⟩] (some d) (.holding r) none).ret.replyPlace = some r ∧
        (s (some r) [] none .idle none).ret.line = none ∧ ∀ x, (s (some r) [] none .idle none).mgmt ≠ .holding x) ∧
      ((s none [⟨.parity, 2, 255⟩] (some d) .idle none).ret.replyPlace = none ∧
        (s none [⟨.parity, 2, 255⟩] (some d) .idle none).notices = [⟨.parity, 2, 255⟩]) ∧
      ((s none [] (some d) .idle none).ret.dumpPlace = some d ∧ (s none [] (some d) .idle none).dump.held = none ∧
        (s none [] (some d) .idle (some d)).dump.held = some d) ∧
      (s none [] none .idle none).ret.dumpPlace = none ∧
      (ReplyReady f r (s none [⟨.parity, 2, 255⟩] none (.executing f (.finished r)) none) ∧
        ∀ g x, ¬ ReplyReady g x (s none [] (some d) .idle none)) ∧
      ((s none [] (some d) (.executing f .restarting) none).mgmt = .executing f .restarting ∧
        RestartSettled (s none [] (some d) (.executing f .restarting) none) ∧
        ∀ g, (s none [] (some d) (.holding r) none).mgmt ≠ .executing g .restarting) ∧
      ({ base with ret := ⟨some (.reply r), none, none⟩ } : State).ret.line.isSome = true ∧
      ∀ x, ReturnFrame.reply r ≠ .dump x :=
  ⟨⟨by decide, by decide, nofun⟩, by decide, by decide, by decide,
    ⟨.inl rfl, fun _ _ h => by rcases h with h | ⟨h, -⟩ | ⟨_, _, h, -⟩ <;> cases h⟩,
    ⟨by decide, ⟨rfl, nofun, rfl⟩, nofun⟩,
    by decide, nofun⟩

/-- R182, R180: a RESTART whose work ended while the line was busy has its REPLY ready when the line falls idle, before
the ABORTED frame. -/
theorem test_restart_reply_first :
    let d : DumpFrame := ⟨92, false, false, true, []⟩
    let s := returnChoose { base with
      mgmt := .executing (mactFrame 3 []) .restarting
      ret := ⟨some (.dump ⟨91, false, false, false, []⟩), none, some d⟩ }
    (match exec .returnTransmitEnd s with
      | .next t => (match t.ret.line with | some (.reply _) => true | _ => false) && t.ret.dumpPlace == some d
      | _ => false) = true := by decide +kernel

theorem test_witness_SentFrameWords : ∀ x ∈ [(NoticeKind.portUp, 0), (.counterFull, 12)], ∃ n : Notice, n.kind = x.1 :=
  fun x _ => ⟨⟨x.1, 0, 1⟩, rfl⟩

theorem test_witness_RaiseAddsOneOccurrence :
    let s : State := { base with
      noticeMask := base.noticeMask.set 12 true, notices := [⟨.laneUp, 0, 1⟩, ⟨.counterFull, 0, 255⟩] }
    base.noticeMask[NoticeKind.portUp.number] = false ∧ s.noticeMask[NoticeKind.counterFull.number] = true ∧
      s.notices = [⟨.laneUp, 0, 1⟩] ++ ⟨.counterFull, 0, 255⟩ :: [] ∧
      (∀ x ∈ [(⟨.laneUp, 0, 1⟩ : Notice)], ¬ (x.kind = .counterFull ∧ x.index = 0)) ∧
      (∀ x ∈ base.notices, ¬ (x.kind = NoticeKind.counterFull ∧ x.index = 0)) ∧ 254 < 255 := by decide

/-- Counters at 65535, at 65534 and at 0. -/
theorem test_witness_IncrementSaturates :
    let s (v : Word) : State := { base with counters := base.counters.write (.global .parityH) v }
    (s 65535).counters.read (.global .parityH) = 65535 ∧ (s 65534).counters.read (.global .parityH) = 65534 ∧
      base.counters.read (.slot 95 .haltTimeout) ≠ 65535 := by decide

/-! ### A state that meets the invariants and steps: RUNNING, its first expiry waiting -/

theorem keys_one (e : SourceEntry) : ∀ a b : Fin 48, a ≠ b →
    sameKey (base.sourceTable.set 47 e)[a] (base.sourceTable.set 47 e)[b] = false := by
  have h : ∀ q : Fin 48, (base.sourceTable.set 47 e)[q] = if q = 47 then e else SourceEntry.reset := by
    intro q
    by_cases hq : q = 47
    · subst hq; simp
    · have : (47 : Nat) ≠ q.1 := fun h => hq (Fin.ext h.symm)
      simp [hq, this, base, State.reset]
  intro a b hab
  rw [h, h]
  split <;> split <;> first
    | (rename_i h1 h2; exact absurd (h1.trans h2.symm) hab)
    | (unfold sameKey; simp [SourceEntry.reset])

theorem one_path (e : PathEntry) (i : Fin 384) :
    (base.pathTable.set 383 e)[i] = if i = 383 then e else PathEntry.reset := by
  by_cases hi : i = 383
  · subst hi; simp
  · have : (383 : Nat) ≠ i.1 := fun h => hi (Fin.ext h.symm)
    simp [hi, this, base, State.reset]

theorem plan_one (e : PathEntry) : PlanConstraints (base.pathTable.set 383 e) := by
  refine ⟨few_enabled e, ?_⟩
  intro i j hij
  rw [one_path, one_path]
  split <;> split <;> simp_all [sharesBlock, PathEntry.reset]

def busy : State := { base with running := true, timer := some 40, period := 40, pending := [.periodExpiry] }

theorem test_busy_steps : step busy = .next (after .periodExpiry { busy with pending := [] }) := rfl

theorem busy_lane (l : Fin 4) : busy.lanes[l] = Lane.reset true := by simp [busy, base, State.reset]
theorem busy_out (t : Fin 96) : busy.outstanding[t] = none := by simp [busy, base, State.reset]

theorem test_witness_StepKeepsStoresAndQueues : StoresCanonical busy ∧ QueuesBounded busy ∧ DeviceLegal busy ∧
    NoticesLegal busy :=
  ⟨⟨rfl, rfl⟩, ⟨by decide, by decide, by decide, nofun, by decide⟩,
    ⟨by decide, by decide, by decide, by decide, by decide⟩, ⟨by decide, by decide, by decide⟩⟩

theorem test_witness_StepKeepsTrafficConsistent : TrafficConsistent busy ∧ ChannelsLegal busy ∧
    LiveSlotsEnabled busy := by
  refine ⟨⟨⟨?_, ?_, ?_⟩, ?_, ?_, ?_, ?_, ?_, ?_⟩, ?_, ?_⟩
  all_goals first
    | (intro l; rw [busy_lane]; simp [Lane.reset])
    | (intro t; rw [busy_out]; simp)
    | (intro t; constructor <;> simp [busy, base, State.reset, Channel.reset])
    | (intro t; simp [busy, base, State.reset, Channel.reset])

theorem test_witness_StepKeepsTablesLegal : TablesInRange busy ∧ KeysUnique busy ∧ PlanHolds busy ∧ GainLegal busy := by
  have h : busy.pathTable = base.pathTable.set 383 PathEntry.reset := by
    apply Vector.ext
    intro i hi
    simp [busy, base, State.reset]
  refine ⟨⟨?_, ?_, ?_, ?_, fun i => by rw [show busy.pathTable[i] = PathEntry.reset from base_path i]; decide,
    by decide⟩, ?_, ⟨?_, ?_, nofun⟩, ⟨?_, ?_, ?_⟩⟩
  · decide
  · decide
  · decide +kernel
  · decide +kernel
  · have hs : busy.sourceTable = base.sourceTable.set 47 SourceEntry.reset := by
      apply Vector.ext
      intro i hi
      simp [busy, base, State.reset]
    unfold KeysUnique
    rw [hs]
    exact keys_one _
  · rw [h]; exact plan_one _
  · show PlanConstraints busy.pathTable
    rw [h]; exact plan_one _
  all_goals decide +kernel

theorem test_witness_StepKeepsPortsLanesArbiters : PortsLegal busy ∧ LanesLegal busy ∧ BanksBusy busy ∧
    ReturnBusy busy ∧
    LanesBusy busy := by
  refine ⟨⟨by decide, by decide, by decide⟩, ⟨?_, ?_, ?_, ?_, ?_⟩, ?_, ⟨by decide, nofun, by decide⟩, ⟨?_, ?_, ?_⟩⟩
  all_goals first
    | (intro t; rw [busy_out]; simp)
    | (intro l; rw [busy_lane]; simp [Lane.reset])
    | (intro b; cases b <;> decide)

end Tests
end Sys2Proof
end

namespace Sys2Proof
namespace Machine

/-! ### Correction arithmetic (chapter 1): the raw correction of R19 -/

/-- R19: rounding never lowers one sum's correction below a smaller sum's. -/
theorem rawCorrection_mono (s : Nat) {a b : Int} (h : a ≤ b) : rawCorrection s a ≤ rawCorrection s b :=
  Int.ediv_le_ediv (by positivity) (by omega)

/-- R19: the raw correction as the quotient with remainder of the biased sum. -/
theorem rawCorrection_eq_of_remainder {s : Nat} {a q r : Int} (hsum : a + 2 ^ (14 + s) = r + 2 ^ (15 + s) * q)
    (hr : 0 ≤ r) (hlt : r < 2 ^ (15 + s)) : rawCorrection s a = q := by
  rw [rawCorrection, hsum, Int.add_mul_ediv_left _ _ (by positivity), Int.ediv_eq_zero_of_lt hr hlt, Int.zero_add]

/-- R19: the divisor is twice the bias. -/
theorem correctionDivisor_eq_two_mul_bias (s : Nat) : (2 : Int) ^ (15 + s) = 2 * 2 ^ (14 + s) := by
  rw [← pow_succ', show 14 + s + 1 = 15 + s by omega]

/-- R19: a sum that is a multiple of the divisor is scaled without rounding. -/
theorem rawCorrection_multiple (s : Nat) (k : Int) : rawCorrection s (2 ^ (15 + s) * k) = k := by
  have hbias : (0 : Int) < 2 ^ (14 + s) := by positivity
  have hdiv := correctionDivisor_eq_two_mul_bias s
  exact rawCorrection_eq_of_remainder (Int.add_comm _ _) hbias.le (by omega)

/-- R19: a sum halfway between two multiples of the divisor rounds up. -/
theorem rawCorrection_tie (s : Nat) (k : Int) : rawCorrection s (2 ^ (15 + s) * k + 2 ^ (14 + s)) = k + 1 := by
  refine rawCorrection_eq_of_remainder (r := 0) ?_ le_rfl (by positivity)
  rw [correctionDivisor_eq_two_mul_bias]
  ring

/-- R18, R19: the largest slot sum is a multiple of every shift's divisor. -/
theorem maxSlotSum_eq_multiple {s : Nat} (hs : s ≤ 15) : (2 : Int) ^ 38 = 2 ^ (15 + s) * 2 ^ (23 - s) := by
  rw [← pow_add, show 15 + s + (23 - s) = 38 by omega]

/-- R19: the raw correction of the largest slot sum. -/
theorem rawCorrection_maxSlotSum {s : Nat} (hs : s ≤ 15) : rawCorrection s (2 ^ 38) = 2 ^ (23 - s) := by
  rw [maxSlotSum_eq_multiple hs, rawCorrection_multiple]

/-- R19: the raw correction of the least slot sum. -/
theorem rawCorrection_minSlotSum {s : Nat} (hs : s ≤ 15) : rawCorrection s (-2 ^ 38) = -2 ^ (23 - s) := by
  rw [maxSlotSum_eq_multiple hs, ← Int.mul_neg, rawCorrection_multiple]

/-- R19: the raw correction is the floor of the biased quotient. -/
theorem rawCorrection_floor (s : Nat) (a : Int) : 2 ^ (15 + s) * rawCorrection s a ≤ a + 2 ^ (14 + s) ∧
    a + 2 ^ (14 + s) < 2 ^ (15 + s) * (rawCorrection s a + 1) := by
  have hdiv : (0 : Int) < 2 ^ (15 + s) := by positivity
  rw [Int.mul_add, Int.mul_one]
  exact ⟨Int.mul_ediv_self_le hdiv.ne', Int.lt_mul_ediv_self_add hdiv⟩

/-- Settles O16: floor and tie from the lemmas above, the bound from the two extreme sums by monotonicity. -/
theorem rawCorrectionRounds : Obligations.RawCorrectionRounds := by
  unfold Obligations.RawCorrectionRounds
  refine ⟨rawCorrection_floor, rawCorrection_tie, ?_, ?_, fun s a hs hmin hmax => ⟨?_, ?_⟩⟩
  · exact rawCorrection_tie 0 0
  · exact rawCorrection_tie 0 (-1)
  · exact (rawCorrection_minSlotSum hs).symm.trans_le (rawCorrection_mono s hmin)
  · exact (rawCorrection_mono s hmax).trans_eq (rawCorrection_maxSlotSum hs)

end Machine
end Sys2Proof

namespace Sys2Proof
namespace Machine

/-! ### The outcome of a management row (R165) -/

/-- R165: a row that executes the frame just taken has its effect on it, and then the return arbiter chooses. -/
theorem onFrame_executing {row : MgmtRow} {f : MgmtFrame} {s : State} (h : Executing row f s)
    (effect : MgmtFrame → State → State) : onFrame row effect s = .next (returnChoose (effect f s)) := by
  obtain ⟨hawake, htaken, hrow⟩ := h
  have hframe : frameFor row s = some f := by simp [frameFor, htaken, hrow]
  rw [onFrame, live_awake hawake, hframe]

/-- R165: an answer is the reply with its status and nothing else. -/
theorem answer_eq_replied (f : MgmtFrame) (st : Status) (s : State) :
    answer f st s = replied f (statusReply f st) s := rfl

/-- R173: the first argument, in range, is what the action acts on. -/
theorem withArg_inRange {n : Nat} {f : MgmtFrame} {i : Fin n} (h : f.arg1 = some i.1)
    (act : Fin n → MgmtFrame → State → State) (s : State) : withArg n act f s = act i f s := by
  simp [withArg, toFin, h]

/-- R173 step 3: a first argument out of range is refused with RANGE. -/
theorem withArg_outOfRange {n a : Nat} {f : MgmtFrame} (h : f.arg1 = some a) (ha : n ≤ a)
    (act : Fin n → MgmtFrame → State → State) (s : State) :
    withArg n act f s = replied f (statusReply f .range) s := by
  simp [withArg, toFin, h, ha.not_gt, answer_eq_replied]

/-! ### RUN and STOP (R54 to R56, R12) -/

/-- R55: RUN of 0 or of 16 to 250 is carried out: the period changes, and a STOPPED device starts its timer at it. -/
theorem actRun_inRange {f : MgmtFrame} {a : Nat} (h : f.arg1 = some a) (ha : a = 0 ∨ (16 ≤ a ∧ a ≤ 250)) (s : State) :
    actRun f s = replied f (statusReply f .done)
      (if s.running then { s with period := if a = 0 then s.period else a }
       else { s with
        period := if a = 0 then s.period else a, running := true, timer := some (if a = 0 then s.period else a) }) := by
  have hok : ¬ (a ≠ 0 ∧ (a < 16 ∨ 250 < a)) := by omega
  simp only [actRun, h, if_neg hok, answer_eq_replied]
  exact (apply_ite (replied f (statusReply f .done)) _ _ _).symm

/-- R55: RUN of any other period is refused with RANGE. -/
theorem actRun_outOfRange {f : MgmtFrame} {a : Nat} (h : f.arg1 = some a) (hne : a ≠ 0) (ha : a < 16 ∨ 250 < a)
    (s : State) : actRun f s = replied f (statusReply f .range) s := by
  simp only [actRun, h, if_pos (And.intro hne ha), answer_eq_replied]

/-- R56, R12: a stopped device has its timer off and its pending path updates current. -/
theorem stopDevice_eq (s : State) : stopDevice s =
    { s with running := false, timer := none, pathTable := projected s, pathPending := [] } := rfl

/-- R56: STOP is always carried out, and acts only while RUNNING. -/
theorem actStop_eq (f : MgmtFrame) (s : State) : actStop f s = replied f (statusReply f .done)
    (if s.running then { s with running := false, timer := none, pathTable := projected s, pathPending := [] }
     else s) := by
  rw [actStop, answer_eq_replied, stopDevice_eq]

/-! ### The rows of RUN, STOP, CLEAR-PARITY and GAIN-RESTART -/

theorem exec_run_eq (s : State) : exec .run s = onFrame .run actRun s := rfl
theorem exec_stop_eq (s : State) : exec .stop s = onFrame .stop actStop s := rfl
theorem exec_gainRestart_eq (s : State) :
    exec .gainRestart s = onFrame .gainRestart (withArg 96 actGainRestart) s := rfl
theorem exec_clearParity_eq (s : State) : exec .clearParity s = onFrame .clearParity
    (fun f s => answer f .done { s with parityFlags := ⟨false, false, false⟩ }) s := rfl

/-- Settles O47: each row acts on the frame it executes; RUN and GAIN-RESTART by the range of their argument. -/
theorem simpleActions : Obligations.SimpleActions := by
  unfold Obligations.SimpleActions
  refine fun f s => ⟨fun a hrun harg ha => ?run, fun a hrun harg hne ha => ?runRange, fun hstop => ?stop,
    fun hclear => ?clearParity, fun t hgain harg => ?gain, fun a hgain harg ha => ?gainRange⟩
  case run => rw [exec_run_eq, onFrame_executing hrun, actRun_inRange harg ha]
  case runRange => rw [exec_run_eq, onFrame_executing hrun, actRun_outOfRange harg hne ha]
  case stop => rw [exec_stop_eq, onFrame_executing hstop, actStop_eq]
  case clearParity => rw [exec_clearParity_eq, onFrame_executing hclear, answer_eq_replied]
  case gain =>
    rw [exec_gainRestart_eq, onFrame_executing hgain, withArg_inRange harg, actGainRestart, answer_eq_replied]
  case gainRange => rw [exec_gainRestart_eq, onFrame_executing hgain, withArg_outOfRange harg ha]

end Machine
end Sys2Proof

namespace Sys2Proof
namespace Machine

/-! ### The energy and its bit length (R104, R105) -/

/-- R104: no history value has a magnitude above that of −32768. -/
theorem magnitude_le (x : Word) : magnitude x ≤ 2 ^ 15 := by
  have hmin : -2 ^ 15 ≤ x.toInt := x.le_toInt
  have hmax : x.toInt < 2 ^ 15 := x.toInt_lt
  rw [magnitude]
  omega

/-- R104: each history value adds at most 2^30 to the energy. -/
theorem energy_le (xs : List Word) : energy xs ≤ xs.length * 2 ^ 30 := by
  induction xs with
  | nil => exact Nat.zero_le _
  | cons x xs ih =>
    have hsquare : magnitude x * magnitude x ≤ 2 ^ 15 * 2 ^ 15 := Nat.mul_self_le_mul_self (magnitude_le x)
    rw [energy, List.length_cons]
    omega

/-- R105: the bit length of a nonzero energy is one more than its binary logarithm. -/
theorem bitLength_of_ne_zero {e : Nat} (he : e ≠ 0) : bitLength e = Nat.log2 e + 1 := if_neg he

/-- R105: the bit length of a nonzero energy is the one number whose powers of two enclose it. -/
theorem bitLength_eq_iff {e : Nat} (he : e ≠ 0) (n : Nat) :
    bitLength e = n ↔ 1 ≤ n ∧ 2 ^ (n - 1) ≤ e ∧ e < 2 ^ n := by
  rw [bitLength_of_ne_zero he]
  cases n with
  | zero => simp
  | succ k => simpa using Nat.log2_eq_iff he

/-- R105: the bit length counts the binary places that a nonzero energy needs. -/
theorem bitLength_le_iff {e : Nat} (he : e ≠ 0) (n : Nat) : bitLength e ≤ n ↔ e < 2 ^ n := by
  rw [bitLength_of_ne_zero he, Nat.add_one_le_iff, Nat.log2_lt he]

/-- R104, R105: the energy of at most 32 history values fits in 36 bits. -/
theorem bitLength_energy_le {xs : List Word} (hlen : xs.length ≤ 32) (he : energy xs ≠ 0) :
    bitLength (energy xs) ≤ 36 := by
  have henergy := energy_le xs
  rw [bitLength_le_iff he]
  omega

/-- Settles O25: the bit length from the binary logarithm, its bound of 36 from the bound of the energy. -/
theorem normalizationExponent : Obligations.NormalizationExponent := by
  unfold Obligations.NormalizationExponent
  refine ⟨fun e n he => bitLength_eq_iff he n, fun nMin e _ => rfl, fun nMin xs hlen he hlow hhigh => ?_⟩
  have hpos : 1 ≤ bitLength (energy xs) := ((bitLength_eq_iff he _).mp rfl).1
  have hle : bitLength (energy xs) ≤ 36 := bitLength_energy_le hlen he
  rw [normExponent]
  exact ⟨hpos, hle, by omega, by omega⟩

end Machine
end Sys2Proof

namespace Sys2Proof
namespace Machine

/-! ### The lane arbiter (R160, R125) -/

/-- The first accepted member, at a known place in its list. -/
theorem takeFirst_append {α : Type} {p : α → Bool} {a b : List α} {e : α} (ha : ∀ x ∈ a, p x = false)
    (he : p e = true) : takeFirst p (a ++ e :: b) = some (e, a ++ b) := by
  induction a with
  | nil => simp [takeFirst, he]
  | cons x a ih =>
    obtain ⟨hx, ha⟩ := List.forall_mem_cons.1 ha
    simp [takeFirst, hx, ih ha]

theorem eligible_iff (s : State) (t : Fin 96) : eligible s t = true ↔ s.outstanding[t] = none :=
  Option.isNone_iff_eq_none

theorem eligible_eq_false_iff (s : State) (t : Fin 96) : eligible s t = false ↔ s.outstanding[t] ≠ none := by
  rw [← Bool.not_eq_true, eligible_iff]

theorem aged_and_eligible_eq_false_iff (s : State) (e : HaltEntry) :
    (e.aged && eligible s e.slot) = false ↔ ¬ (e.aged = true ∧ s.outstanding[e.slot] = none) := by
  rw [← Bool.not_eq_true, Bool.and_eq_true, eligible_iff]

/-- R160: the oldest eligible entry of a queue, at a known place in it. -/
theorem takeFirst_eligible {α : Type} {slot : α → Fin 96} {s : State} {q a b : List α} {e : α} (hq : q = a ++ e :: b)
    (hfree : s.outstanding[slot e] = none) (ha : ∀ x ∈ a, ¬ s.outstanding[slot x] = none) :
    takeFirst (fun e => eligible s (slot e)) q = some (e, a ++ b) := by
  rw [hq]
  exact takeFirst_append (fun x hx => (eligible_eq_false_iff s _).2 (ha x hx)) ((eligible_iff s _).2 hfree)

theorem takeFirst_eligible_eq_none {α : Type} {slot : α → Fin 96} {s : State} {q : List α}
    (hq : ∀ x ∈ q, ¬ s.outstanding[slot x] = none) : takeFirst (fun e => eligible s (slot e)) q = none :=
  (takeFirst_none _ _).2 fun x hx => (eligible_eq_false_iff s _).2 (hq x hx)

/-- R160, first preference: the oldest eligible aged HALT. -/
theorem laneNext_agedHalt {s : State} {k : Lane} {a b : List HaltEntry} {e : HaltEntry} (hq : k.untimed = a ++ e :: b)
    (haged : e.aged = true) (hfree : s.outstanding[e.slot] = none)
    (ha : ∀ x ∈ a, ¬ (x.aged = true ∧ s.outstanding[x.slot] = none)) :
    laneNext s k = some (.halt e.slot e.seq, k.timed, a ++ b) := by
  have hfirst : takeFirst (fun e => e.aged && eligible s e.slot) k.untimed = some (e, a ++ b) := by
    rw [hq]
    exact takeFirst_append (fun x hx => (aged_and_eligible_eq_false_iff s x).2 (ha x hx))
      (Bool.and_eq_true _ _ ▸ ⟨haged, (eligible_iff s _).2 hfree⟩)
  simp only [laneNext, hfirst, HaltEntry.frame]

section NoAgedHalt
variable {s : State} {k : Lane} (hnoAged : ∀ x ∈ k.untimed, ¬ (x.aged = true ∧ s.outstanding[x.slot] = none))
include hnoAged

theorem takeFirst_aged_eq_none : takeFirst (fun e => e.aged && eligible s e.slot) k.untimed = none :=
  (takeFirst_none _ _).2 fun x hx => (aged_and_eligible_eq_false_iff s x).2 (hnoAged x hx)

/-- R160, second preference: the oldest eligible timed entry. -/
theorem laneNext_timed {a b : List TimedEntry} {e : TimedEntry} (hq : k.timed = a ++ e :: b)
    (hfree : s.outstanding[e.slot] = none) (ha : ∀ x ∈ a, ¬ s.outstanding[x.slot] = none) :
    laneNext s k = some (e.frame, a ++ b, k.untimed) := by
  simp only [laneNext, takeFirst_aged_eq_none hnoAged, takeFirst_eligible hq hfree ha]

section NoTimed
variable (hnoTimed : ∀ x ∈ k.timed, ¬ s.outstanding[x.slot] = none)
include hnoTimed

/-- R160: with neither an eligible aged HALT nor an eligible timed entry, the oldest eligible HALT decides. -/
theorem laneNext_of_no_timed : laneNext s k =
    (takeFirst (fun e => eligible s e.slot) k.untimed).map fun x => (x.1.frame, k.timed, x.2) := by
  simp only [laneNext, takeFirst_aged_eq_none hnoAged, takeFirst_eligible_eq_none hnoTimed]
  cases takeFirst (fun e : HaltEntry => eligible s e.slot) k.untimed <;> rfl

/-- R160, third preference: the oldest eligible HALT. -/
theorem laneNext_halt {a b : List HaltEntry} {e : HaltEntry} (hq : k.untimed = a ++ e :: b)
    (hfree : s.outstanding[e.slot] = none) (ha : ∀ x ∈ a, ¬ s.outstanding[x.slot] = none) :
    laneNext s k = some (.halt e.slot e.seq, k.timed, a ++ b) := by
  rw [laneNext_of_no_timed hnoAged hnoTimed, takeFirst_eligible hq hfree ha]
  rfl

/-- R160: no eligible entry, no choice. -/
theorem laneNext_none (hnoHalt : ∀ x ∈ k.untimed, ¬ s.outstanding[x.slot] = none) : laneNext s k = none := by
  rw [laneNext_of_no_timed hnoAged hnoTimed, takeFirst_eligible_eq_none hnoHalt]
  rfl

end NoTimed
end NoAgedHalt

/-- R160: on a DOWN lane, or during a transmission, the arbiter chooses nothing. -/
theorem laneChoose_of_down_or_busy {l : Fin 4} {s : State}
    (h : s.lanes[l].up = false ∨ s.lanes[l].tx.isSome = true) : laneChoose l s = s := by
  refine if_neg fun hopen => ?_
  obtain ⟨hup, hline⟩ := Bool.and_eq_true_iff.1 hopen
  rcases h with hdown | hbusy
  · exact Bool.false_ne_true (hdown.symm.trans hup)
  · exact Option.isSome_iff_ne_none.1 hbusy (Option.isNone_iff_eq_none.1 hline)

section FreeLine
variable {l : Fin 4} {s : State} (hup : s.lanes[l].up = true) (hline : s.lanes[l].tx = none)
include hup hline

/-- R160, R125: the chosen entry leaves its queue, and its frame is on the line. -/
theorem laneChoose_of_next {f : LaneFrame} {timed : List TimedEntry} {untimed : List HaltEntry}
    (h : laneNext s s.lanes[l] = some (f, timed, untimed)) : laneChoose l s =
      setLane l { s.lanes[l] with timed := timed, untimed := untimed, tx := some ⟨f, true⟩ } s := by
  simp only [laneChoose, hup, hline, h, Option.isNone_none, Bool.and_self, if_true]

theorem laneChoose_of_no_next (h : laneNext s s.lanes[l] = none) : laneChoose l s = s := by
  simp only [laneChoose, hup, hline, h, Option.isNone_none, Bool.and_self, if_true]

end FreeLine

/-- Settles O33: the arbiter sends what `laneNext` answers, and `laneNext` answers by preference. -/
theorem laneArbiterPrefers : Obligations.LaneArbiterPrefers := by
  unfold Obligations.LaneArbiterPrefers
  refine fun l s => ⟨laneChoose_of_down_or_busy, fun hup hline => ⟨fun a e b hq haged hfree ha => ?agedHalt,
    fun hnoAged => ⟨fun a e b hq hfree ha => ?timed,
      fun hnoTimed => ⟨fun a e b hq hfree ha => ?halt, fun hnoHalt => ?nothing⟩⟩⟩⟩
  case agedHalt => exact laneChoose_of_next hup hline (laneNext_agedHalt hq haged hfree ha)
  case timed => exact laneChoose_of_next hup hline (laneNext_timed hnoAged hq hfree ha)
  case halt => exact laneChoose_of_next hup hline (laneNext_halt hnoAged hnoTimed hq hfree ha)
  case nothing => exact laneChoose_of_no_next hup hline (laneNext_none hnoAged hnoTimed hnoHalt)

end Machine
end Sys2Proof

namespace Sys2Proof
namespace Machine

/-! ### The channel actions (R141 to R143) -/

theorem exec_startSlot_eq (s : State) : exec .startSlot s = onFrame .startSlot (withArg 96 startChannel) s := rfl
theorem exec_haltSlot_eq (s : State) : exec .haltSlot s = onFrame .haltSlot (withArg 96 haltChannel) s := rfl
theorem exec_releaseSlot_eq (s : State) :
    exec .releaseSlot s = onFrame .releaseSlot (withArg 96 releaseChannel) s := rfl

/-- R142: the flush and the new HALT entry are one change of the slot's lane, and then its arbiter chooses. -/
theorem enterHalting_eq (t : Fin 96) (s : State) : enterHalting t s =
    laneChoose (slotLane t) (setLane (slotLane t) { s.lanes[slotLane t] with
      timed := s.lanes[slotLane t].timed.filter (fun e => decide (e.slot ≠ t))
      untimed := s.lanes[slotLane t].untimed ++ [⟨t, s.seq, false⟩] } (setChannel t ⟨.halting, 0, none⟩ s)) := by
  simp only [enterHalting, flushTimed, setLane_get, setLane_setLane, setLane_seq, setChannel_seq, setChannel_lanes,
    Channel.at]

/-- Settles O49: each action acts on the channel that its argument names, by that channel's state. -/
theorem channelActions : Obligations.ChannelActions := by
  unfold Obligations.ChannelActions
  refine fun f t s harg => ⟨fun hstart => ?start, fun hhalt => ?halt, fun hrelease => ?release⟩
  case start =>
    rw [exec_startSlot_eq, onFrame_executing hstart, withArg_inRange harg, startChannel]
    cases s.channels[t].state <;> rfl
  case halt =>
    rw [exec_haltSlot_eq, onFrame_executing hhalt, withArg_inRange harg, haltChannel, enterHalting_eq]
    cases s.channels[t].state <;> rfl
  case release =>
    rw [exec_releaseSlot_eq, onFrame_executing hrelease, withArg_inRange harg, releaseChannel]
    cases s.channels[t].state <;> rfl

end Machine
end Sys2Proof

namespace Sys2Proof
namespace Machine

/-! ### The notice list (R190, R191) -/

/-- R191: a raise of a masked kind is discarded. -/
theorem raise_of_masked {k : NoticeKind} {s : State} (h : s.noticeMask[k.number] = false) (i : Nat) :
    raise k i s = s := by
  simp [raise, h]

/-- R190: a raise of an unmasked kind reaches the notice list, whatever the list holds. -/
theorem raise_of_unmasked {k : NoticeKind} {s : State} (h : s.noticeMask[k.number] = true) (i : Nat)
    (l : List Notice) : raise k i { s with notices := l } = { s with notices := addNotice k i l } := if_pos h

/-- R190: the search for a key goes past the entries of other keys. -/
theorem addNotice_append_of_absent {k : NoticeKind} {i : Nat} {a : List Notice}
    (ha : ∀ x ∈ a, ¬ (x.kind = k ∧ x.index = i)) (b : List Notice) :
    addNotice k i (a ++ b) = a ++ addNotice k i b := by
  induction a with
  | nil => rfl
  | cons x a ih =>
    obtain ⟨hx, ha⟩ := List.forall_mem_cons.1 ha
    rw [List.cons_append, addNotice, if_neg hx, ih ha, List.cons_append]

/-- R190: a raise of a key the list holds adds one occurrence to its entry, in its place. -/
theorem addNotice_held {a : List Notice} {n : Notice} (ha : ∀ x ∈ a, ¬ (x.kind = n.kind ∧ x.index = n.index))
    (b : List Notice) : addNotice n.kind n.index (a ++ n :: b) =
      a ++ ⟨n.kind, n.index, min 255 (n.count + 1)⟩ :: b := by
  rw [addNotice_append_of_absent ha, addNotice, if_pos ⟨rfl, rfl⟩]

/-- R190: a raise of an absent key joins the tail with one occurrence. -/
theorem addNotice_absent {k : NoticeKind} {i : Nat} {a : List Notice} (ha : ∀ x ∈ a, ¬ (x.kind = k ∧ x.index = i)) :
    addNotice k i a = a ++ [⟨k, i, 1⟩] := by
  simpa [addNotice] using addNotice_append_of_absent ha []

/-- R190: the raises of one key, absent at first, count in one entry at the tail. -/
theorem raise_iterate_of_absent {k : NoticeKind} {i : Nat} {s : State} (hmask : s.noticeMask[k.number] = true)
    (habsent : ∀ x ∈ s.notices, ¬ (x.kind = k ∧ x.index = i)) {n : Nat} (hn : n < 255) :
    (raise k i)^[n + 1] s = { s with notices := s.notices ++ [⟨k, i, n + 1⟩] } := by
  induction n with
  | zero => exact (raise_of_unmasked hmask i s.notices).trans (by rw [addNotice_absent habsent])
  | succ n ih =>
    have hcount : min 255 (n + 1 + 1) = n + 1 + 1 := Nat.min_eq_right hn
    have hadd : addNotice k i (s.notices ++ [⟨k, i, n + 1⟩]) = s.notices ++ [⟨k, i, min 255 (n + 1 + 1)⟩] :=
      addNotice_held (n := ⟨k, i, n + 1⟩) habsent []
    rw [Function.iterate_succ_apply', ih (Nat.lt_of_succ_lt hn), raise_of_unmasked hmask, hadd, hcount]

/-- Settles O54: a raise by the mask and by the key's place in the list, several raises by induction on their number. -/
theorem raiseAddsOneOccurrence : Obligations.RaiseAddsOneOccurrence := by
  unfold Obligations.RaiseAddsOneOccurrence
  refine fun k i s => ⟨fun hmasked => ?masked, fun hmask => ⟨fun a n b hlist hkind hindex ha => ?held,
    fun habsent n hn => ?absent⟩⟩
  case masked => exact raise_of_masked hmasked i
  case held =>
    subst hkind hindex
    exact (raise_of_unmasked hmask n.index s.notices).trans (by rw [hlist, addNotice_held ha])
  case absent => exact raise_iterate_of_absent hmask habsent hn

end Machine
end Sys2Proof

namespace Sys2Proof
namespace Machine

/-! ### The counters (R184, R185) -/

/-! R185: each counter of an entry has a word of its own. -/

theorem PortCtr.index_injective : Function.Injective PortCtr.index :=
  Function.LeftInverse.injective (g := fun j => PortCtr.ofNat j.1) fun c => by cases c <;> rfl
theorem LaneCtr.index_injective : Function.Injective LaneCtr.index :=
  Function.LeftInverse.injective (g := fun j => LaneCtr.ofNat j.1) fun c => by cases c <;> rfl
theorem SlotCtr.index_injective : Function.Injective SlotCtr.index :=
  Function.LeftInverse.injective (g := fun j => SlotCtr.ofNat j.1) fun c => by cases c <;> rfl
theorem GlobalCtr.index_injective : Function.Injective GlobalCtr.index :=
  Function.LeftInverse.injective (g := fun j => GlobalCtr.ofNat j.1) fun c => by cases c <;> rfl

/-- A table of entries with one word of one entry set: any other word is as it was. -/
theorem entry_set_get_ne {α : Type} {m n : Nat} (v : Vector (Vector α m) n) {p q : Fin n} {a b : Fin m} (x : α)
    (h : ¬ (q = p ∧ b = a)) : (v.set p (v[p].set a x))[q][b] = v[q][b] := by
  by_cases hq : q = p
  · subst hq
    rw [vector_set_get, vector_set_get_ne _ _ _ _ fun hb => h ⟨rfl, hb⟩]
  · rw [vector_set_get_ne _ _ _ _ hq]

@[simp] theorem Counters.read_write (c : Counters) (i : CounterId) (v : Word) : (c.write i v).read i = v := by
  cases i <;> simp [Counters.read, Counters.write]

theorem Counters.read_write_ne (c : Counters) {i j : CounterId} (h : j ≠ i) (v : Word) :
    (c.write i v).read j = c.read j := by
  cases i with
  | port p k =>
    cases j with
    | port q m => exact entry_set_get_ne _ _ fun ⟨hq, hm⟩ => h (hq ▸ PortCtr.index_injective hm ▸ rfl)
    | lane | slot | global => rfl
  | lane p k =>
    cases j with
    | lane q m => exact entry_set_get_ne _ _ fun ⟨hq, hm⟩ => h (hq ▸ LaneCtr.index_injective hm ▸ rfl)
    | port | slot | global => rfl
  | slot p k =>
    cases j with
    | slot q m => exact entry_set_get_ne _ _ fun ⟨hq, hm⟩ => h (hq ▸ SlotCtr.index_injective hm ▸ rfl)
    | port | lane | global => rfl
  | global k =>
    cases j with
    | global m => exact vector_set_get_ne _ _ _ _ fun hm => h (GlobalCtr.index_injective hm ▸ rfl)
    | port | lane | slot => rfl

/-! ### An increment (R184, R187) -/

@[simp] theorem raise_counters (k : NoticeKind) (i : Nat) (s : State) : (raise k i s).counters = s.counters := by
  rw [raise_frame]

/-- R187: a counter at 65535 stays there, and nothing is raised. -/
theorem incr_of_full {i : CounterId} {s : State} (h : s.counters.read i = 65535) : incr i s = s := if_pos h

/-- R184, R187: below 65535 the counter takes its next value, and reaching 65535 raises COUNTER-FULL. -/
theorem incr_of_not_full {i : CounterId} {s : State} (h : s.counters.read i ≠ 65535) : incr i s =
    if s.counters.read i = 65534 then
      raise .counterFull 0 { s with counters := s.counters.write i (s.counters.read i + 1) }
    else { s with counters := s.counters.write i (s.counters.read i + 1) } := if_neg h

theorem incr_counters_of_not_full {i : CounterId} {s : State} (h : s.counters.read i ≠ 65535) :
    (incr i s).counters = s.counters.write i (s.counters.read i + 1) := by
  rw [incr_of_not_full h]
  split
  · exact raise_counters _ _ _
  · rfl

/-- R184: a counter below 65535 has room for one more count. -/
theorem toNat_succ_of_not_full {v : Word} (h : v ≠ 65535) : (v + 1).toNat = v.toNat + 1 := by
  bv_omega

/-- Settles O55: below 65535 the counters after an increment are the one write, which reads back by the laws of the
counters. -/
theorem incrementSaturates : Obligations.IncrementSaturates := by
  unfold Obligations.IncrementSaturates
  refine fun i s => ⟨incr_of_full, fun hroom => ?_⟩
  rw [incr_counters_of_not_full hroom]
  refine ⟨?counted, fun j hj => ?others, ?state⟩
  case counted => rw [Counters.read_write, toNat_succ_of_not_full hroom]
  case others => exact Counters.read_write_ne _ hj _
  case state => exact incr_of_not_full hroom

end Machine
end Sys2Proof

namespace Sys2Proof
namespace Machine

/-! ### One step: a command's effect, and then the return arbiter's choice -/

/-- A management row's effect on the frame just taken, where it is one that the row executes. -/
def onTaken (row : MgmtRow) (eff : MgmtFrame → State → State) (s : State) : State :=
  match frameFor row s with
  | some f => eff f s
  | none => s

/-- The effect of a row that reads word by word: its first word, or its next one. -/
def onReading (row : MgmtRow) (first : MgmtFrame → State → State) (next : MgmtFrame → List Word → State → State)
    (s : State) : State :=
  match s.mgmt with
  | .executing f .taken => if rowOf f = some row then first f s else s
  | .executing f (.collecting ws) => if rowOf f = some row then next f ws s else s
  | _ => s

/-- R88: CLEAR-PARITY clears the sticky flags. -/
def clearParityFlags (f : MgmtFrame) (s : State) : State :=
  answer f .done { s with parityFlags := ⟨false, false, false⟩ }

/-- What a command does while RESET_N is high, before the return arbiter chooses; `exec_eq_live` ties it to `exec`. The
two reset commands stand outside it. -/
def effect (c : Instr) (s : State) : State :=
  match c with
  | .powerOnReset | .resetRelease => s
  | .portLinkLock p => portLinkLock p s
  | .portLossOfLock p => portLossOfLock p s
  | .portSymbolError p => portSymbolError p s
  | .portWordReceived p w => portWordReceived p w s
  | .portStartMark p => portStartMark p s
  | .portEndMark p => portEndMark p s
  | .portWatchdogExpiry p => portWatchdogExpiry p s
  | .portRateGateEnd p => portRateGateEnd p s
  | .periodExpiry => periodExpiry s
  | .passPush => passPush s
  | .walkSlot => walkSlot s
  | .passComplete => passComplete s
  | .tapOperationComplete b => tapOperationComplete b s
  | .reportTake => reportTake s
  | .adaptPathUpdate => adaptPathUpdate s
  | .laneLinkLock l => laneLinkLock l s
  | .laneLossOfLock l => laneLossOfLock l s
  | .laneSymbolError l => laneSymbolError l s
  | .laneWordReceived l w => laneWordReceived l w s
  | .laneStartMark l => laneStartMark l s
  | .laneEndMark l => laneEndMark l s
  | .laneTransmitEnd l => laneTransmitEnd l s
  | .answerWindowExpiry l t => answerWindowExpiry l t s
  | .mgmtFrameTake => mgmtFrameTake s
  | .mwritePort => onTaken .mwritePort writePort s
  | .mwriteSource => onTaken .mwriteSource writeSource s
  | .mwriteSlot => onTaken .mwriteSlot writeSlot s
  | .mwritePath => onTaken .mwritePath writePath s
  | .mwriteTaps => onTaken .mwriteTaps writeTaps s
  | .mwrite => onTaken .mwrite writeOther s
  | .mread => onReading .mread readTable readNext s
  | .mreadTaps => onTaken .mreadTaps readTaps s
  | .mreadCountersClear => onReading .mreadCountersClear readClear clearNext s
  | .run => onTaken .run actRun s
  | .stop => onTaken .stop actStop s
  | .restart => onTaken .restart actRestart s
  | .startSlot => onTaken .startSlot (withArg 96 startChannel) s
  | .haltSlot => onTaken .haltSlot (withArg 96 haltChannel) s
  | .releaseSlot => onTaken .releaseSlot (withArg 96 releaseChannel) s
  | .gainRestart => onTaken .gainRestart (withArg 96 actGainRestart) s
  | .clearParity => onTaken .clearParity clearParityFlags s
  | .dump => onTaken .dump actDump s
  | .laneReset => onTaken .laneReset (withArg 4 actLaneReset) s
  | .portReset => onTaken .portReset (withArg 8 actPortReset) s
  | .executionComplete => executionComplete s
  | .returnTransmitEnd => returnTransmitEnd s

/-- R182: every command but the two of reset has its effect, and then the return arbiter chooses. -/
theorem exec_eq_live {c : Instr} (hreset : c ≠ .powerOnReset) (hrelease : c ≠ .resetRelease) (s : State) :
    exec c s = live s (effect c s) := by
  cases c with
  | powerOnReset => exact absurd rfl hreset
  | resetRelease => exact absurd rfl hrelease
  | _ => rfl

theorem exec_awake {c : Instr} {s : State} (hawake : s.resetHeld = false) (hreset : c ≠ .powerOnReset)
    (hrelease : c ≠ .resetRelease) : exec c s = .next (returnChoose (effect c s)) := by
  rw [exec_eq_live hreset hrelease, live_awake hawake]

/-- A row leaves every state in which the Management Unit has not just taken a frame of its own (log entry 2). -/
theorem onTaken_cases (row : MgmtRow) (eff : MgmtFrame → State → State) (s : State) :
    onTaken row eff s = s ∨ ∃ f, s.mgmt = .executing f .taken ∧ rowOf f = some row ∧ onTaken row eff s = eff f s := by
  unfold onTaken
  split
  · rename_i f hf
    right
    unfold frameFor at hf
    split at hf
    · rename_i g hg
      split at hf
      · rename_i hrow
        cases hf
        exact ⟨_, hg, hrow, rfl⟩
      · cases hf
    · cases hf
  · exact .inl rfl

theorem onReading_cases (row : MgmtRow) (first : MgmtFrame → State → State)
    (next : MgmtFrame → List Word → State → State) (s : State) : onReading row first next s = s ∨
      (∃ f, s.mgmt = .executing f .taken ∧ rowOf f = some row ∧ onReading row first next s = first f s) ∨
      ∃ f ws, s.mgmt = .executing f (.collecting ws) ∧ rowOf f = some row ∧
        onReading row first next s = next f ws s := by
  unfold onReading
  split
  · rename_i f hf
    by_cases hrow : rowOf f = some row
    · exact .inr (.inl ⟨f, hf, hrow, if_pos hrow⟩)
    · exact .inl (if_neg hrow)
  · rename_i f ws hf
    by_cases hrow : rowOf f = some row
    · exact .inr (.inr ⟨f, ws, hf, hrow, if_pos hrow⟩)
    · exact .inl (if_neg hrow)
  · exact .inl rfl

/-- What holds of the state, and of the row's effect on the frame just taken, holds after the row. -/
theorem onTaken_keeps {P : State → Prop} {row : MgmtRow} {eff : MgmtFrame → State → State} {s : State} (hs : P s)
    (heff : ∀ f, s.mgmt = .executing f .taken → P (eff f s)) : P (onTaken row eff s) := by
  rcases onTaken_cases row eff s with h | ⟨f, hf, -, h⟩
  · rwa [h]
  · rw [h]; exact heff f hf

theorem onReading_keeps {P : State → Prop} {row : MgmtRow} {first : MgmtFrame → State → State}
    {next : MgmtFrame → List Word → State → State} {s : State} (hs : P s)
    (hfirst : ∀ f, s.mgmt = .executing f .taken → P (first f s))
    (hnext : ∀ f ws, s.mgmt = .executing f (.collecting ws) → P (next f ws s)) : P (onReading row first next s) := by
  rcases onReading_cases row first next s with h | ⟨f, hf, -, h⟩ | ⟨f, ws, hf, -, h⟩
  · rwa [h]
  · rw [h]; exact hfirst f hf
  · rw [h]; exact hnext f ws hf

/-- R173: an action with an argument refuses the frame, or acts on the argument. -/
theorem withArg_keeps {P : State → Prop} {n : Nat} {act : Fin n → MgmtFrame → State → State} {f : MgmtFrame}
    {s : State} (hrefused : ∀ st, P (answer f st s)) (hact : ∀ i, P (act i f s)) : P (withArg n act f s) := by
  unfold withArg
  split
  · exact hrefused _
  · split
    · exact hrefused _
    · exact hact _

/-- Everything that a step can do: nothing, one of the two reset commands, or a command's effect followed by the return
arbiter's choice, on the state with the queue's rest. -/
theorem step_cases {s t : State} (h : step s = .next t) : ∃ (rest : List Instr) (u : State),
    u = { s with pending := rest } ∧
      (t = u ∨ t = heldInReset u ∨ (u.resetHeld = true ∧ t = releaseReset u) ∨ ∃ c, t = returnChoose (effect c u)) := by
  unfold step at h
  split at h
  · cases h
    exact ⟨s.pending, s, rfl, .inl rfl⟩
  · rename_i c rest _
    refine ⟨rest, _, rfl, ?_⟩
    revert h
    generalize { s with pending := rest } = u
    intro h
    by_cases hreset : c = .powerOnReset
    · subst hreset
      cases h
      exact .inr (.inl rfl)
    · by_cases hrelease : c = .resetRelease
      · subst hrelease
        cases h
        by_cases hheld : u.resetHeld = true
        · exact .inr (.inr (.inl ⟨hheld, if_pos hheld⟩))
        · exact .inl (if_neg hheld)
      · rw [exec_eq_live hreset hrelease, live] at h
        cases h
        by_cases hheld : u.resetHeld = true
        · exact .inl (if_pos hheld)
        · exact .inr (.inr (.inr ⟨c, if_neg hheld⟩))

/-- What the queue does not matter to, the reset commands keep, and every effect keeps together with the return
arbiter's choice, every step keeps. -/
theorem step_keeps {P : State → Prop} (hqueue : ∀ (s : State) (q : List Instr), P s → P { s with pending := q })
    (hheld : ∀ s, P (heldInReset s)) (hrelease : ∀ s, P s → P (releaseReset s))
    (hrun : ∀ c s, P s → P (returnChoose (effect c s))) {s t : State} (h : step s = .next t) (hs : P s) : P t := by
  obtain ⟨rest, u, rfl, rfl | rfl | ⟨-, rfl⟩ | ⟨c, rfl⟩⟩ := step_cases h
  · exact hqueue s rest hs
  · exact hheld _
  · exact hrelease _ (hqueue s rest hs)
  · exact hrun c _ (hqueue s rest hs)

/-! ### The block as a whole -/

/-- Settles O1: the two cases of `step`. -/
theorem stepRunsFrontCommand : Obligations.StepRunsFrontCommand := by
  unfold Obligations.StepRunsFrontCommand
  refine ⟨fun c rest s hqueue => ?_, fun s hqueue => ?_⟩
  · simp only [step, hqueue]
  · simp only [step, hqueue]

end Machine
end Sys2Proof

namespace Sys2Proof
namespace Machine

/-! ### What the commands of a sense port may touch -/

/-- t differs from s at most in the ports, the latches, the management input queue and what a count touches. -/
def OnlyPorts (s t : State) : Prop :=
  t = { s with ports := t.ports, latches := t.latches, mgmtQueue := t.mgmtQueue, counters := t.counters,
               parityFlags := t.parityFlags, notices := t.notices }

theorem OnlyPorts.refl (s : State) : OnlyPorts s s := rfl

theorem OnlyPorts.trans {s t u : State} (h : OnlyPorts s t) (k : OnlyPorts t u) : OnlyPorts s u := by
  unfold OnlyPorts at *; rw [k, h]

theorem OnlyCounts.onlyPorts {s t : State} (h : OnlyCounts s t) : OnlyPorts s t := by
  unfold OnlyCounts OnlyPorts at *; rw [h]

theorem setPort_only (p : Fin 8) (q : Port) (s : State) : OnlyPorts s (setPort p q s) := rfl

theorem raise_onlyPorts (k : NoticeKind) (i : Nat) (s : State) : OnlyPorts s (raise k i s) :=
  (raise_only k i s).onlyPorts

theorem portLeave_only (p : Fin 8) (m : PortMode) (s : State) : OnlyPorts s (portLeave p m s) := by
  unfold portLeave
  dsimp only
  split
  · exact (setPort_only _ _ s).trans (raise_onlyPorts _ _ _)
  · exact setPort_only _ _ s

theorem portLinkError_only (p : Fin 8) (s : State) : OnlyPorts s (portLinkError p s) := by
  unfold portLinkError
  dsimp only
  split
  · split
    · exact portLeave_only _ _ _
    · exact setPort_only _ _ _
  · exact OnlyPorts.refl s

theorem portTryPass_only (p : Fin 8) (s : State) : OnlyPorts s (portTryPass p s) := by
  unfold portTryPass
  dsimp only
  split
  · exact (setPort_only _ _ s).trans (raise_onlyPorts _ _ _)
  · exact OnlyPorts.refl s

theorem portRequalify_only (p : Fin 8) (s : State) : OnlyPorts s (portRequalify p s) :=
  (setPort_only _ _ s).trans (raise_onlyPorts _ _ _)

theorem portValidEffect_only (p : Fin 8) (sample : Bool) (s : State) : OnlyPorts s (portValidEffect p sample s) := by
  unfold portValidEffect
  dsimp only
  split
  · exact (setPort_only _ _ s).trans (portTryPass_only _ _)
  · exact setPort_only _ _ s

theorem portDamagedEffect_only (p : Fin 8) (s : State) : OnlyPorts s (portDamagedEffect p s) := by
  unfold portDamagedEffect
  dsimp only
  split
  · exact setPort_only _ _ s
  · split
    · exact portRequalify_only _ _
    · exact OnlyPorts.refl s
  · exact OnlyPorts.refl s
  · exact OnlyPorts.refl s

theorem portClassEffect_only (p : Fin 8) (cls : FrameClass) (f : RxFrame) (s : State) :
    OnlyPorts s (portClassEffect p cls f s) := by
  unfold portClassEffect
  cases cls with
  | valid => exact portValidEffect_only _ _ _
  | damaged | short | babble => exact portDamagedEffect_only _ _
  | format => exact OnlyPorts.refl s

theorem mgmtJoin_only (f : MgmtFrame) (s : State) : OnlyPorts s (mgmtJoin f s) := by
  unfold mgmtJoin
  split
  · rfl
  · exact ((incr_only _ s).trans (raise_only _ _ _)).onlyPorts

theorem deliverSamples_only (p : Fin 8) (node : Nat) (xs : List Word) (s : State) :
    OnlyPorts s (deliverSamples p node xs s) := rfl

theorem portDeliver_only (p : Fin 8) (cls : FrameClass) (f : RxFrame) (s : State) :
    OnlyPorts s (portDeliver p cls f s) := by
  unfold portDeliver
  split
  · exact OnlyPorts.refl s
  · split
    · split
      · exact deliverSamples_only _ _ _ s
      · exact OnlyPorts.refl s
    · split
      · exact mgmtJoin_only _ _
      · exact OnlyPorts.refl s

/-- Counting a frame that ended at a port. -/
theorem countFrame_only (p : Fin 8) (c : PortCtr) (s : State) :
    OnlyPorts s (incr (.port p c) (incr (.port p .received) s)) :=
  ((incr_only _ s).trans (incr_only _ _)).onlyPorts

theorem portFrameEnd_only (p : Fin 8) (f : RxFrame) (b : Bool) (s : State) : OnlyPorts s (portFrameEnd p f b s) :=
  (((setPort_only _ _ s).trans (countFrame_only _ _ _)).trans (portClassEffect_only _ _ _ _)).trans
    (portDeliver_only _ _ _ _)

theorem portLinkLock_only (p : Fin 8) (s : State) : OnlyPorts s (portLinkLock p s) := by
  unfold portLinkLock
  dsimp only
  split
  · exact setPort_only _ _ s
  · exact OnlyPorts.refl s

theorem portLossOfLock_only (p : Fin 8) (s : State) : OnlyPorts s (portLossOfLock p s) := by
  unfold portLossOfLock
  split
  · exact portLeave_only _ _ _
  · exact OnlyPorts.refl s

theorem portSymbolError_only (p : Fin 8) (s : State) : OnlyPorts s (portSymbolError p s) := by
  unfold portSymbolError
  dsimp only
  split
  · exact (setPort_only _ _ s).trans (portLinkError_only _ _)
  · exact OnlyPorts.refl s

theorem portWordReceived_only (p : Fin 8) (w : Word) (s : State) : OnlyPorts s (portWordReceived p w s) := by
  unfold portWordReceived
  dsimp only
  split
  · exact setPort_only _ _ s
  · exact OnlyPorts.refl s

theorem portOpenFrame_only (p : Fin 8) (s : State) : OnlyPorts s (portOpenFrame p s) := by
  unfold portOpenFrame
  dsimp only
  split
  · exact setPort_only _ _ s
  · exact OnlyPorts.refl s

theorem portStartMark_only (p : Fin 8) (s : State) : OnlyPorts s (portStartMark p s) := by
  unfold portStartMark
  dsimp only
  split
  · split
    · exact portOpenFrame_only _ _
    · exact ((portFrameEnd_only _ _ _ s).trans (portLinkError_only _ _)).trans (portOpenFrame_only _ _)
  · exact OnlyPorts.refl s

theorem portEndMark_only (p : Fin 8) (s : State) : OnlyPorts s (portEndMark p s) := by
  unfold portEndMark
  dsimp only
  split
  · split
    · exact portLinkError_only _ _
    · exact portFrameEnd_only _ _ _ _
  · exact OnlyPorts.refl s

theorem portWatchdogExpiry_only (p : Fin 8) (s : State) : OnlyPorts s (portWatchdogExpiry p s) := by
  unfold portWatchdogExpiry
  dsimp only
  split
  · exact OnlyPorts.refl s
  · generalize hu : setPort p _ s = u
    have hset : OnlyPorts s u := hu ▸ setPort_only _ _ _
    refine hset.trans ?_
    split
    · exact setPort_only _ _ _
    · exact portRequalify_only _ _
    · exact OnlyPorts.refl _
    · exact OnlyPorts.refl _

theorem portRateGateEnd_only (p : Fin 8) (s : State) : OnlyPorts s (portRateGateEnd p s) := by
  unfold portRateGateEnd
  dsimp only
  split
  · exact OnlyPorts.refl s
  · generalize hu : setPort p _ s = u
    have hset : OnlyPorts s u := hu ▸ setPort_only _ _ _
    refine hset.trans ?_
    split
    · exact portTryPass_only _ _
    · split
      · exact portRequalify_only _ _
      · exact OnlyPorts.refl _
    · exact OnlyPorts.refl _
    · exact OnlyPorts.refl _

/-! ### What the commands of a lane may touch -/

/-- t differs from s at most in the lanes, the outstanding records, the channels, the count of entries to UP, the report
queue, the latches and what a count touches. -/
def OnlyTraffic (s t : State) : Prop :=
  t = { s with lanes := t.lanes, outstanding := t.outstanding, channels := t.channels, resumes := t.resumes,
               reports := t.reports, latches := t.latches, counters := t.counters, parityFlags := t.parityFlags,
               notices := t.notices }

theorem OnlyTraffic.refl (s : State) : OnlyTraffic s s := rfl

theorem OnlyTraffic.trans {s t u : State} (h : OnlyTraffic s t) (k : OnlyTraffic t u) : OnlyTraffic s u := by
  unfold OnlyTraffic at *; rw [k, h]

theorem OnlyCounts.onlyTraffic {s t : State} (h : OnlyCounts s t) : OnlyTraffic s t := by
  unfold OnlyCounts OnlyTraffic at *; rw [h]

theorem OnlyLanes.onlyTraffic {s t : State} (h : OnlyLanes s t) : OnlyTraffic s t := by
  unfold OnlyLanes OnlyTraffic at *; rw [h]

theorem raise_onlyTraffic (k : NoticeKind) (i : Nat) (s : State) : OnlyTraffic s (raise k i s) :=
  (raise_only k i s).onlyTraffic

theorem incr_onlyTraffic (i : CounterId) (s : State) : OnlyTraffic s (incr i s) := (incr_only i s).onlyTraffic

theorem setLane_onlyTraffic (l : Fin 4) (k : Lane) (s : State) : OnlyTraffic s (setLane l k s) := rfl

theorem setChannel_onlyTraffic (t : Fin 96) (c : Channel) (s : State) : OnlyTraffic s (setChannel t c s) := rfl

theorem setOutstanding_onlyTraffic (t : Fin 96) (r : Option OutRecord) (s : State) :
    OnlyTraffic s (setOutstanding t r s) := rfl

theorem flushTimed_onlyTraffic (t : Fin 96) (s : State) : OnlyTraffic s (flushTimed t s) := rfl

theorem laneChoose_onlyTraffic (l : Fin 4) (s : State) : OnlyTraffic s (laneChoose l s) :=
  (laneChoose_only l s).onlyTraffic

theorem channelAccept_only (t : Fin 96) (s : State) : OnlyTraffic s (channelAccept t s) := by
  unfold channelAccept
  split
  · exact (setChannel_onlyTraffic t _ s).trans (flushTimed_onlyTraffic _ _)
  · exact setChannel_onlyTraffic t _ s

theorem channelDefer_only (t : Fin 96) (s : State) : OnlyTraffic s (channelDefer t s) := by
  unfold channelDefer
  dsimp only
  refine (incr_onlyTraffic (.slot t .defer) s).trans ?_
  split
  · exact ((setChannel_onlyTraffic t _ _).trans (flushTimed_onlyTraffic _ _)).trans (raise_onlyTraffic _ _ _)
  · exact setChannel_onlyTraffic t _ _

theorem channelFault_only (t : Fin 96) (s : State) : OnlyTraffic s (channelFault t s) :=
  (((incr_onlyTraffic (.slot t .fault) s).trans (setChannel_onlyTraffic t _ _)).trans
    (flushTimed_onlyTraffic t _)).trans (raise_onlyTraffic _ _ _)

theorem channelStatus_only (t : Fin 96) (k : SentKind) (st : AnswerStatus) (s : State) :
    OnlyTraffic s (channelStatus t k st s) := by
  unfold channelStatus
  cases s.channels[t].state with
  | run | probe =>
    cases st with
    | accept => exact channelAccept_only _ _
    | defer => exact channelDefer_only _ _
    | fault => exact channelFault_only _ _
  | halting =>
    cases k with
    | halt => exact setChannel_onlyTraffic _ _ _
    | correct | probe => exact OnlyTraffic.refl s
  | off | halted | retired => exact OnlyTraffic.refl s

theorem channelMiss_only (t : Fin 96) (s : State) : OnlyTraffic s (channelMiss t s) := by
  unfold channelMiss
  dsimp only
  refine (incr_onlyTraffic (.slot t .miss) s).trans ?_
  split
  · exact setChannel_onlyTraffic t _ _
  · exact ((setChannel_onlyTraffic t _ _).trans (flushTimed_onlyTraffic _ _)).trans (raise_onlyTraffic _ _ _)

theorem channelHaltTimeout_only (t : Fin 96) (s : State) : OnlyTraffic s (channelHaltTimeout t s) :=
  ((setChannel_onlyTraffic t _ s).trans (incr_onlyTraffic _ _)).trans (raise_onlyTraffic _ _ _)

theorem channelExpiry_only (t : Fin 96) (k : SentKind) (s : State) : OnlyTraffic s (channelExpiry t k s) := by
  unfold channelExpiry
  cases s.channels[t].state with
  | run | probe =>
    cases k with
    | halt => exact OnlyTraffic.refl s
    | correct | probe => exact channelMiss_only _ _
  | halting =>
    cases k with
    | halt => exact channelHaltTimeout_only _ _
    | correct | probe => exact OnlyTraffic.refl s
  | off | halted | retired => exact OnlyTraffic.refl s

theorem laneEmpty_only (l : Fin 4) (s : State) : OnlyTraffic s (laneEmpty l s) := rfl

theorem laneEnterDown_only (l : Fin 4) (s : State) : OnlyTraffic s (laneEnterDown l s) :=
  (laneEmpty_only l s).trans (raise_onlyTraffic _ _ _)

theorem laneLinkError_only (l : Fin 4) (s : State) : OnlyTraffic s (laneLinkError l s) := by
  unfold laneLinkError
  dsimp only
  split
  · split
    · exact laneEnterDown_only _ _
    · exact setLane_onlyTraffic _ _ _
  · exact OnlyTraffic.refl s

theorem laneEnterUp_only (l : Fin 4) (s : State) : OnlyTraffic s (laneEnterUp l s) := by
  unfold laneEnterUp
  dsimp only
  generalize hlanes : s.lanes.set l _ = lanes
  generalize hchannels : mapEntries _ s.channels = channels
  refine OnlyTraffic.trans (t := { s with lanes := lanes, channels := channels, resumes := s.resumes + 1 }) rfl ?_
  exact ((raise_onlyTraffic _ _ _).trans (raiseEach_only _ _ _).onlyTraffic).trans (laneChoose_onlyTraffic _ _)

theorem reportJoin_only (r : Report) (s : State) : OnlyTraffic s (reportJoin r s) := by
  unfold reportJoin
  split
  · rfl
  · exact ((incr_only _ s).trans (raise_only _ _ _)).onlyTraffic

theorem deliverAggressor_only (t : Fin 96) (v : Word) (s : State) : OnlyTraffic s (deliverAggressor t v s) := rfl

theorem distribute_only (a : Answer) (k : SentKind) (s : State) : OnlyTraffic s (distribute a k s) := by
  unfold distribute
  dsimp only
  refine (channelStatus_only a.slot k a.status s).trans ?_
  generalize channelStatus a.slot k a.status s = u
  cases a.report with
  | none =>
    cases a.aggressor with
    | none => exact OnlyTraffic.refl u
    | some v => exact deliverAggressor_only _ _ u
  | some x =>
    refine (reportJoin_only ⟨a.slot, x.1, x.2⟩ u).trans ?_
    cases a.aggressor with
    | none => exact OnlyTraffic.refl _
    | some v => exact deliverAggressor_only _ _ _

theorem answerMatch_only (l : Fin 4) (a : Answer) (s : State) : OnlyTraffic s (answerMatch l a s) := by
  unfold answerMatch
  split
  · split
    · exact (((setOutstanding_onlyTraffic a.slot none s).trans (incr_onlyTraffic _ _)).trans
        (distribute_only _ _ _)).trans (laneChoose_onlyTraffic _ _)
    · exact incr_onlyTraffic _ _
  · exact incr_onlyTraffic _ _

theorem laneFrameEnd_only (l : Fin 4) (f : RxFrame) (b : Bool) (s : State) : OnlyTraffic s (laneFrameEnd l f b s) := by
  unfold laneFrameEnd
  dsimp only
  generalize hu : setLane l _ s = u
  have hset : OnlyTraffic s u := hu ▸ setLane_onlyTraffic _ _ _
  refine hset.trans ?_
  split
  · exact incr_onlyTraffic _ _
  · exact (incr_onlyTraffic _ _).trans (laneLinkError_only _ _)
  · exact incr_onlyTraffic _ _
  · exact incr_onlyTraffic _ _
  · split
    · exact (setLane_onlyTraffic l _ _).trans (answerMatch_only _ _ _)
    · exact OnlyTraffic.refl _

theorem laneLinkLock_only (l : Fin 4) (s : State) : OnlyTraffic s (laneLinkLock l s) := by
  unfold laneLinkLock
  split
  · exact OnlyTraffic.refl s
  · exact laneEnterUp_only _ _

theorem laneLossOfLock_only (l : Fin 4) (s : State) : OnlyTraffic s (laneLossOfLock l s) := by
  unfold laneLossOfLock
  split
  · exact laneEnterDown_only _ _
  · exact OnlyTraffic.refl s

theorem laneSymbolError_only (l : Fin 4) (s : State) : OnlyTraffic s (laneSymbolError l s) := by
  unfold laneSymbolError
  dsimp only
  split
  · exact (setLane_onlyTraffic l _ s).trans (laneLinkError_only _ _)
  · exact OnlyTraffic.refl s

theorem laneWordReceived_only (l : Fin 4) (w : Word) (s : State) : OnlyTraffic s (laneWordReceived l w s) := by
  unfold laneWordReceived
  dsimp only
  split
  · exact setLane_onlyTraffic l _ s
  · exact OnlyTraffic.refl s

theorem laneOpenFrame_only (l : Fin 4) (s : State) : OnlyTraffic s (laneOpenFrame l s) := by
  unfold laneOpenFrame
  dsimp only
  split
  · exact setLane_onlyTraffic l _ s
  · exact OnlyTraffic.refl s

theorem laneStartMark_only (l : Fin 4) (s : State) : OnlyTraffic s (laneStartMark l s) := by
  unfold laneStartMark
  dsimp only
  split
  · split
    · exact laneOpenFrame_only _ _
    · exact ((laneFrameEnd_only _ _ _ s).trans (laneLinkError_only _ _)).trans (laneOpenFrame_only _ _)
  · exact OnlyTraffic.refl s

theorem laneEndMark_only (l : Fin 4) (s : State) : OnlyTraffic s (laneEndMark l s) := by
  unfold laneEndMark
  dsimp only
  split
  · split
    · exact laneLinkError_only _ _
    · exact laneFrameEnd_only _ _ _ _
  · exact OnlyTraffic.refl s

theorem laneTransmitEnd_only (l : Fin 4) (s : State) : OnlyTraffic s (laneTransmitEnd l s) := by
  unfold laneTransmitEnd
  dsimp only
  split
  · exact OnlyTraffic.refl s
  · generalize hu : setLane l _ s = u
    have hset : OnlyTraffic s u := hu ▸ setLane_onlyTraffic _ _ _
    refine hset.trans ((incr_onlyTraffic (.lane l .sent) u).trans (OnlyTraffic.trans ?_ (laneChoose_onlyTraffic l _)))
    split
    · exact setOutstanding_onlyTraffic _ _ _
    · exact OnlyTraffic.refl _

theorem answerWindowExpiry_only (l : Fin 4) (t : Fin 96) (s : State) : OnlyTraffic s (answerWindowExpiry l t s) := by
  unfold answerWindowExpiry
  split
  · split
    · exact OnlyTraffic.refl s
    · exact ((setOutstanding_onlyTraffic t none s).trans (channelExpiry_only _ _ _)).trans (laneChoose_onlyTraffic _ _)
  · exact OnlyTraffic.refl s

end Machine
end Sys2Proof

namespace Sys2Proof
namespace Machine

/-! ### What the commands of the pass may touch -/

/-- t differs from s at most in the pass, the timer and the sequence, the History Store and the latches, the lanes, the
Path Table, the Tap Store with its banks, and what a count touches. -/
def OnlyPass (s t : State) : Prop :=
  t = { s with timer := t.timer, seq := t.seq, lanes := t.lanes, history := t.history, pushPos := t.pushPos,
               latches := t.latches, pass := t.pass, pathTable := t.pathTable, pathPending := t.pathPending,
               taps := t.taps, bankE := t.bankE, bankO := t.bankO, counters := t.counters,
               parityFlags := t.parityFlags, notices := t.notices }

theorem OnlyPass.refl (s : State) : OnlyPass s s := rfl

theorem OnlyPass.trans {s t u : State} (h : OnlyPass s t) (k : OnlyPass t u) : OnlyPass s u := by
  unfold OnlyPass at *; rw [k, h]

theorem OnlyCounts.onlyPass {s t : State} (h : OnlyCounts s t) : OnlyPass s t := by
  unfold OnlyCounts OnlyPass at *; rw [h]

theorem OnlyLanes.onlyPass {s t : State} (h : OnlyLanes s t) : OnlyPass s t := by
  unfold OnlyLanes OnlyPass at *; rw [h]

theorem OnlyBanks.onlyPass {s t : State} (h : OnlyBanks s t) : OnlyPass s t := by
  unfold OnlyBanks OnlyPass at *; rw [h]

theorem beginPass_only (n : Word) (w : Nat) (s : State) : OnlyPass s (beginPass n w s) := rfl

theorem clearHistory_only (s : State) : OnlyPass s (clearHistory s) := rfl

/-- R59, R73: the pass of s has ended with outcome o, an overrun counted and raised; no other has begun. -/
def passOver (o : PassOutcome) (s : State) : State :=
  let u : State := { s with pass := { s.pass with stage := .idle, lastOutcome := o, ending := none, comp := none } }
  if o = .overrun then raise .passOverrun 0 (incr (.global .passOverrun) u) else u

/-- R57, R73, R76: the pass over, the one that waits longest begins; with none waiting, a RESTART in execution clears
the History Store. -/
theorem endPass_eq (o : PassOutcome) (s : State) : endPass o s =
    if s.pass.waiting ≠ 0 then
      beginPass ((passOver o s).seq - BitVec.ofNat 16 (s.pass.waiting - 1)) (s.pass.waiting - 1) (passOver o s)
    else if restartWaiting (passOver o s) then clearHistory (passOver o s) else passOver o s := rfl

theorem passOver_only (o : PassOutcome) (s : State) : OnlyPass s (passOver o s) := by
  unfold passOver
  dsimp only
  refine OnlyPass.trans (t := { s with
    pass := { s.pass with stage := .idle, lastOutcome := o, ending := none, comp := none } }) rfl ?_
  split
  · exact ((incr_only _ _).trans (raise_only _ _ _)).onlyPass
  · exact OnlyPass.refl _

theorem endPass_only (o : PassOutcome) (s : State) : OnlyPass s (endPass o s) := by
  rw [endPass_eq]
  refine (passOver_only o s).trans ?_
  split
  · exact beginPass_only _ _ _
  · split
    · exact clearHistory_only _
    · exact OnlyPass.refl _

/-- R57, R58, R159: the expiry itself: the next one is set, the sequence moves on, every waiting HALT is aged. -/
def expire (s : State) : State := markAged { s with timer := some s.period, seq := s.seq + 1 }

/-- R57, R73: the pass in flight is to end, as an overrun unless RESTART ends it already, and the new one waits. -/
def cutPass (s : State) : State :=
  { s with pass := { s.pass with waiting := s.pass.waiting + 1, ending := s.pass.ending.or (some .overrun) } }

/-- R57, R73, R74: what an expiry does, by where the pass in flight stands. -/
theorem periodExpiry_eq (s : State) : periodExpiry s =
    if s.running then
      if s.pass.stage = .idle then beginPass (s.seq + 1) 0 (expire s)
      else if s.pass.stage = .walk ∧ 96 ≤ s.pass.walkPos then endPass .overrun (cutPass (expire s))
      else cutPass (expire s)
    else s := rfl

theorem expire_only (s : State) : OnlyPass s (expire s) := rfl

theorem cutPass_only (s : State) : OnlyPass s (cutPass s) := rfl

theorem periodExpiry_only (s : State) : OnlyPass s (periodExpiry s) := by
  rw [periodExpiry_eq]
  split
  · refine (expire_only s).trans ?_
    split
    · exact beginPass_only _ _ _
    · refine (cutPass_only _).trans ?_
      split
      · exact endPass_only _ _
      · exact OnlyPass.refl _
  · exact OnlyPass.refl s

theorem pushSources_only (s : State) : OnlyPass s (pushSources s) := rfl

theorem passPush_only (s : State) : OnlyPass s (passPush s) := by
  unfold passPush
  split
  · dsimp only
    have hpush := pushSources_only s
    generalize pushSources s = u at hpush ⊢
    refine hpush.trans ?_
    split
    · rfl
    · exact endPass_only _ _
    · exact endPass_only _ _
  · exact OnlyPass.refl s

theorem slotDone_only (s : State) : OnlyPass s (slotDone s) := by
  unfold slotDone
  dsimp only
  split
  · rfl
  · exact OnlyPass.trans (t := { s with pass := { s.pass with
      walkPos := overrunPosition s (s.pass.walkPos + 1) } }) rfl (endPass_only _ _)
  · exact OnlyPass.trans (t := { s with pass := { s.pass with walkPos := s.pass.walkPos + 1 } }) rfl (endPass_only _ _)

theorem finishComp_only (c : SlotComp) (s : State) : OnlyPass s (finishComp c s) := by
  unfold finishComp
  dsimp only
  refine OnlyPass.trans (t := { s with pass := { s.pass with comp := none } }) rfl
    (OnlyPass.trans ?_ (handOver_only _ _).onlyPass)
  split
  · exact (incr_only _ _).onlyPass
  · exact OnlyPass.refl _

theorem finishProbe_only (t : Fin 96) (s : State) : OnlyPass s (finishProbe t s) :=
  OnlyPass.trans (t := { s with pass := { s.pass with comp := none } }) rfl (handOver_only _ _).onlyPass

theorem beginComp_only (t : Fin 96) (s : State) : OnlyPass s (beginComp t s) := by
  unfold beginComp
  dsimp only
  generalize (⟨t, _, _, 0, (pathSet s t).map (pathJob s)⟩ : SlotComp) = c
  refine (checkParity_only .h ((pathSet s t).flatMap (pathHistory s)) s).onlyPass.trans ?_
  generalize checkParity .h _ s = u
  refine OnlyPass.trans (t := { addElapsed (pathsNs (pathSet s t)) u with
    pass := { (addElapsed (pathsNs (pathSet s t)) u).pass with comp := some (.compute c) } }) rfl ?_
  split
  · exact OnlyPass.refl _
  · exact (request_only _ _ _).onlyPass

theorem reachSlot_only (t : Fin 96) (s : State) : OnlyPass s (reachSlot t s) := by
  unfold reachSlot
  dsimp only
  split
  · refine OnlyPass.trans (t := addElapsed Config.selectedSlotNs s) rfl ?_
    split
    · exact beginComp_only _ _
    · rfl
  · exact slotDone_only s

theorem walkSlot_only (s : State) : OnlyPass s (walkSlot s) := by
  unfold walkSlot
  split
  · split
    · split
      · exact (finishComp_only _ s).trans (slotDone_only _)
      · exact OnlyPass.refl s
    · exact (finishProbe_only _ s).trans (slotDone_only _)
    · split
      · exact reachSlot_only _ _
      · exact OnlyPass.refl s
  · exact OnlyPass.refl s

theorem passComplete_only (s : State) : OnlyPass s (passComplete s) := by
  unfold passComplete
  split
  · exact endPass_only _ _
  · exact OnlyPass.refl s

/-! ### What the Adaptation Engine and the completion of a bank operation may touch -/

/-- t differs from s at most in the reports, the engine and the gains, the Tap Store with its banks, the pass, the
Management Unit, the dump and the return, and what a count touches. -/
def OnlyStoreUse (s t : State) : Prop :=
  t = { s with reports := t.reports, engine := t.engine, gain := t.gain, taps := t.taps, bankE := t.bankE,
               bankO := t.bankO, pass := t.pass, mgmt := t.mgmt, dump := t.dump, ret := t.ret,
               counters := t.counters, parityFlags := t.parityFlags, notices := t.notices }

theorem OnlyStoreUse.refl (s : State) : OnlyStoreUse s s := rfl

theorem OnlyStoreUse.trans {s t u : State} (h : OnlyStoreUse s t) (k : OnlyStoreUse t u) : OnlyStoreUse s u := by
  unfold OnlyStoreUse at *; rw [k, h]

theorem OnlyCounts.onlyStoreUse {s t : State} (h : OnlyCounts s t) : OnlyStoreUse s t := by
  unfold OnlyCounts OnlyStoreUse at *; rw [h]

theorem OnlyBanks.onlyStoreUse {s t : State} (h : OnlyBanks s t) : OnlyStoreUse s t := by
  unfold OnlyBanks OnlyStoreUse at *; rw [h]

theorem OnlyReturn.onlyStoreUse {s t : State} (h : OnlyReturn s t) : OnlyStoreUse s t := by
  unfold OnlyReturn OnlyStoreUse at *; rw [h]

theorem walkOn_only (v : Service) (i : Nat) (s : State) : OnlyStoreUse s (walkOn v i s) := by
  unfold walkOn
  split <;> rfl

theorem reportTake_only (s : State) : OnlyStoreUse s (reportTake s) := by
  unfold reportTake
  split
  · rename_i r rest _ _
    dsimp only
    refine OnlyStoreUse.trans (t := { s with reports := rest }) rfl ?_
    split
    · exact OnlyStoreUse.refl _
    · split
      · exact (incr_only _ _).onlyStoreUse
      · split
        · exact (incr_only _ _).onlyStoreUse
        · split
          · generalize hg : s.gain.set r.slot _ = gain
            refine OnlyStoreUse.trans (t := { s with reports := rest, gain := gain }) rfl ?_
            exact (incr_only _ _).onlyStoreUse.trans (walkOn_only _ _ _)
          · exact (incr_only _ _).onlyStoreUse
  · exact OnlyStoreUse.refl s

theorem beginUpdate_only (v : Service) (i : Nat) (e : PathEntry) (s : State) :
    OnlyStoreUse s (beginUpdate v i e s) := by
  unfold beginUpdate
  dsimp only
  split
  · have hcheck := (checkParity_only .h (historyRead s e.source (spanStart s v e) e.taps) s).onlyStoreUse
    generalize checkParity .h _ s = u at hcheck ⊢
    refine hcheck.trans ?_
    split
    · exact walkOn_only _ _ _
    · exact OnlyStoreUse.trans (t := { u with engine := some { v with pathPos := i, updating := true } }) rfl
        (request_only _ _ _).onlyStoreUse
  · exact (incr_only _ s).onlyStoreUse.trans (walkOn_only _ _ _)

theorem adaptPathUpdate_only (s : State) : OnlyStoreUse s (adaptPathUpdate s) := by
  unfold adaptPathUpdate
  split
  · exact OnlyStoreUse.refl s
  · split
    · exact OnlyStoreUse.refl s
    · split
      · exact beginUpdate_only _ _ _ _
      · exact walkOn_only _ _ _

theorem deliverPass_only (ws : List StoredWord) (s : State) : OnlyStoreUse s (deliverPass ws s) := by
  unfold deliverPass
  split
  · exact OnlyStoreUse.refl s
  · exact OnlyStoreUse.refl s
  · rename_i c _
    split
    · exact OnlyStoreUse.refl s
    · rename_i job rest _
      dsimp only
      refine OnlyStoreUse.trans (t := { s with pass := { s.pass with
        comp := some (.compute { c with acc := c.acc + contribution job ws, todo := rest }) } }) rfl ?_
      split
      · exact OnlyStoreUse.refl _
      · exact (request_only _ _ _).onlyStoreUse

theorem deliverAdapt_only (n : Nat) (s : State) : OnlyStoreUse s (deliverAdapt n s) := by
  unfold deliverAdapt
  split
  · exact OnlyStoreUse.refl s
  · rename_i v _
    refine (incrTimes_only (.slot v.slot .saturation) n s).onlyStoreUse.trans ?_
    dsimp only
    split
    · rfl
    · exact walkOn_only _ _ _

theorem placeAborted_only (s : State) : OnlyReturn s (placeAborted s) := rfl

theorem deliverDump_only (block : Fin 512) (ws : List StoredWord) (s : State) :
    OnlyReturn s (deliverDump block ws s) := by
  unfold deliverDump
  split
  · exact placeAborted_only s
  · dsimp only
    split
    · exact placeDumpFrame_only _ _
    · rfl

theorem deliverMgmtRead_only (second : Bool) (ws : List StoredWord) (s : State) :
    OnlyReturn s (deliverMgmtRead second ws s) := by
  unfold deliverMgmtRead
  split <;> rfl

theorem deliverMgmtWrite_only (s : State) : OnlyReturn s (deliverMgmtWrite s) := by
  unfold deliverMgmtWrite
  split <;> rfl

theorem deliverOp_only (b : BankId) (u : UnderWay) (s : State) : OnlyStoreUse s (deliverOp b u s) := by
  unfold deliverOp
  dsimp only
  refine (checkParity_only (ParityBank.ofBank b) u.words s).onlyStoreUse.trans ?_
  cases u.op with
  | passRead _ _ => exact deliverPass_only _ _
  | adaptUpdate _ _ => exact deliverAdapt_only _ _
  | dumpRead block => exact (deliverDump_only _ _ _).onlyStoreUse
  | mgmtRead second _ _ => exact (deliverMgmtRead_only _ _ _).onlyStoreUse
  | mgmtWrite _ => exact (deliverMgmtWrite_only _).onlyStoreUse

theorem tapOperationComplete_only (b : BankId) (s : State) : OnlyStoreUse s (tapOperationComplete b s) := by
  unfold tapOperationComplete
  split
  · exact OnlyStoreUse.refl s
  · exact (takeNext_only b s).onlyStoreUse.trans (deliverOp_only _ _ _)

/-! ### The two steps that serve the return -/

theorem executionComplete_only (s : State) : OnlyReturn s (executionComplete s) := by
  unfold executionComplete
  split
  · exact OnlyReturn.refl s
  · split
    · exact placeReply_only _ _
    · rfl

theorem returnTransmitEnd_only (s : State) : OnlyReturn s (returnTransmitEnd s) := by
  unfold returnTransmitEnd
  split
  · exact OnlyReturn.refl s
  · dsimp only
    split
    · rw [raise_frame]; rfl
    · rfl

end Machine
end Sys2Proof

namespace Sys2Proof
namespace Machine

/-! ### The outcomes of a management row (R165 to R170, R173) -/

/-- t is s with frame f refused: its reply, of a status other than DONE, is known, and nothing else has changed. -/
def Refused (f : MgmtFrame) (s t : State) : Prop := ∃ r : Reply, r.status ≠ .done ∧ t = replied f r s

theorem answer_refused (f : MgmtFrame) {st : Status} (h : st ≠ .done) (s : State) : Refused f s (answer f st s) :=
  ⟨statusReply f st, h, rfl⟩

theorem refuseAt_refused (f : MgmtFrame) {st : Status} (h : st ≠ .done) (off : Nat) (s : State) :
    Refused f s (refuseAt f st off s) :=
  ⟨{ statusReply f st with offset := some off }, h, rfl⟩

/-- R168: the last addressed offset decides whether the frame goes beyond the table. -/
theorem beyond_eq_none_iff (first last size : Nat) : beyond first last size = none ↔ last < size := by
  simp [beyond]

theorem beyond_of_le {last size : Nat} (h : size ≤ last) (first : Nat) :
    beyond first last size = some (max first size) := if_pos h

/-- R167, R168: the outcome of the two checks that every table shares. -/
theorem writeTable_cases (size : Nat) (rest : MgmtFrame → State → State) (f : MgmtFrame) (s : State) :
    Refused f s (writeTable size rest f s) ∨
      (f.writeFormatOk = true ∧ f.lastOffset < size ∧ writeTable size rest f s = rest f s) := by
  unfold writeTable
  split
  · exact .inl (answer_refused f (by decide) s)
  · rename_i hformat
    split
    · exact .inl (refuseAt_refused f (by decide) _ s)
    · rename_i hbeyond
      exact .inr ⟨by simpa using hformat, (beyond_eq_none_iff _ _ _).1 hbeyond, rfl⟩

theorem writePort_cases (f : MgmtFrame) (s : State) : Refused f s (writePort f s) ∨
    (f.lastOffset < 48 ∧ (f.touched 4).find? (portEntryFails f s) = none ∧
      writePort f s = answer f .done (applyPort f s)) := by
  unfold writePort
  rcases writeTable_cases 48 _ f s with h | ⟨-, hlast, h⟩
  · exact .inl h
  · rw [h]
    split
    · exact .inl (refuseAt_refused f (by decide) _ s)
    · rename_i hfails
      exact .inr ⟨hlast, hfails, rfl⟩

theorem writeSource_cases (f : MgmtFrame) (s : State) : Refused f s (writeSource f s) ∨
    (f.lastOffset < 96 ∧ (f.touched 2).find? (sourceEntryFails f s) = none ∧
      (f.touched 2).find? (keyClash (sourceResult f s)) = none ∧
      writeSource f s = answer f .done (applySource f s)) := by
  unfold writeSource
  rcases writeTable_cases 96 _ f s with h | ⟨-, hlast, h⟩
  · exact .inl h
  · rw [h]
    split
    · exact .inl (refuseAt_refused f (by decide) _ s)
    · rename_i hfails
      split
      · exact .inl (refuseAt_refused f (by decide) _ s)
      · rename_i hclash
        exact .inr ⟨hlast, hfails, hclash, rfl⟩

theorem writeSlot_cases (f : MgmtFrame) (s : State) : Refused f s (writeSlot f s) ∨
    (f.lastOffset < 576 ∧ (f.touched 6).find? (slotEntryFails f s) = none ∧
      (f.touched 6).find? (disablesLive f s) = none ∧ writeSlot f s = answer f .done (applySlot f s)) := by
  unfold writeSlot
  rcases writeTable_cases 576 _ f s with h | ⟨-, hlast, h⟩
  · exact .inl h
  · rw [h]
    split
    · exact .inl (refuseAt_refused f (by decide) _ s)
    · rename_i hfails
      split
      · exact .inl (refuseAt_refused f (by decide) _ s)
      · rename_i hlive
        exact .inr ⟨hlast, hfails, hlive, rfl⟩

theorem writePath_cases (f : MgmtFrame) (s : State) : Refused f s (writePath f s) ∨
    (f.lastOffset < 1152 ∧ (f.touched 3).find? (pathEntryFails f s) = none ∧
      (f.touched 3).find? (planFails (pathResult f (projected s))) = none ∧
      (s.running = true → s.pathPending.length + (f.touched 3).length ≤ 16) ∧
      writePath f s = answer f .done (applyPath f s)) := by
  unfold writePath
  rcases writeTable_cases 1152 _ f s with h | ⟨-, hlast, h⟩
  · exact .inl h
  · rw [h]
    split
    · exact .inl (refuseAt_refused f (by decide) _ s)
    · rename_i hfails
      split
      · exact .inl (refuseAt_refused f (by decide) _ s)
      · rename_i hplan
        split
        · exact .inl (refuseAt_refused f (by decide) _ s)
        · rename_i hroom
          exact .inr ⟨hlast, hfails, hplan, fun hrun => Nat.le_of_not_lt fun hlt => hroom ⟨hrun, hlt⟩, rfl⟩

theorem writeTaps_cases (f : MgmtFrame) (s : State) : Refused f s (writeTaps f s) ∨
    (f.writeFormatOk = true ∧
      writeTaps f s = requestWrites f (f.touched 32) (setPhase f (.writing (f.touched 32).length) s)) := by
  unfold writeTaps
  rcases writeTable_cases 16384 _ f s with h | ⟨hformat, -, h⟩
  · exact .inl h
  · rw [h]
    split
    · exact .inl (refuseAt_refused f (by decide) _ s)
    · exact .inr ⟨hformat, rfl⟩

theorem writeOther_cases (f : MgmtFrame) (s : State) : Refused f s (writeOther f s) ∨
    writeOther f s = answer f .done (applyMask f s) := by
  unfold writeOther
  split
  · exact .inl (answer_refused f (by decide) s)
  · split
    · exact .inl (refuseAt_refused f (by decide) _ s)
    · exact .inl (refuseAt_refused f (by decide) _ s)
    · rcases writeTable_cases 13 (fun f s => answer f .done (applyMask f s)) f s with h | ⟨-, -, h⟩
      · exact .inl h
      · exact .inr h
    · exact .inl (answer_refused f (by decide) s)

/-- R171: the words known so far, or the complete read's reply. -/
theorem readNext_cases (f : MgmtFrame) (ws : List Word) (s : State) :
    (∃ all, readNext f ws s = setPhase f (.collecting all) s) ∨
      ∃ all, readNext f ws s = replied f (dataReply f all) s := by
  unfold readNext
  dsimp only
  split
  · exact .inl ⟨_, rfl⟩
  · exact .inr ⟨_, rfl⟩

theorem readTable_cases (f : MgmtFrame) (s : State) : Refused f s (readTable f s) ∨
    readTable f s = readNext f [] s ∨ ∃ all, readTable f s = replied f (dataReply f all) s := by
  unfold readTable
  split
  · split
    · exact .inl (refuseAt_refused f (by decide) _ s)
    · split
      · exact .inr (.inl rfl)
      · exact .inr (.inr ⟨_, rfl⟩)
  · exact .inl (answer_refused f (by decide) s)

theorem readTaps_cases (f : MgmtFrame) (s : State) : Refused f s (readTaps f s) ∨ readTaps f s = requestReads f s := by
  unfold readTaps
  split
  · split
    · exact .inl (refuseAt_refused f (by decide) _ s)
    · exact .inr rfl
  · exact .inl (answer_refused f (by decide) s)

theorem readClear_cases (f : MgmtFrame) (s : State) :
    Refused f s (readClear f s) ∨ readClear f s = clearNext f [] s := by
  unfold readClear
  split
  · split
    · exact .inl (refuseAt_refused f (by decide) _ s)
    · exact .inr rfl
  · exact .inl (answer_refused f (by decide) s)

theorem actRun_cases (f : MgmtFrame) (s : State) : Refused f s (actRun f s) ∨ ∃ p, (p = s.period ∨ 16 ≤ p ∧ p ≤ 250) ∧
    actRun f s = answer f .done
      (if s.running then { s with period := p } else { s with period := p, running := true, timer := some p }) := by
  cases harg : f.arg1 with
  | none =>
    simp only [actRun, harg]
    exact .inl (answer_refused f (by decide) s)
  | some a =>
    by_cases hbad : a ≠ 0 ∧ (a < 16 ∨ 250 < a)
    · rw [actRun_outOfRange harg hbad.1 hbad.2]
      exact .inl (answer_refused f (st := .range) (by decide) s)
    · rw [actRun_inRange harg (by omega)]
      refine .inr ⟨if a = 0 then s.period else a, ?_, rfl⟩
      split
      · exact .inl rfl
      · exact .inr (by omega)

theorem actDump_cases (f : MgmtFrame) (s : State) : Refused f s (actDump f s) ∨ ∃ first last,
    s.dump.state = .idle ∧ actDump f s = replied f { statusReply f .done with startsDump := true }
      { s with dump := { s.dump with state := .reading, next := first, last := last } } := by
  unfold actDump
  split
  · split
    · split
      · exact .inl (answer_refused f (by decide) s)
      · split
        · rename_i hidle
          exact .inr ⟨_, _, hidle, rfl⟩
        · exact .inl (answer_refused f (by decide) s)
    · exact .inl (answer_refused f (by decide) s)
  · exact .inl (answer_refused f (by decide) s)

/-! ### The channel actions, by outcome (R141 to R143) -/

theorem Channel.serving_iff (c : Channel) : c.serving = true ↔ c.state = .run ∨ c.state = .probe := by
  simp [Channel.serving]

theorem startChannel_cases (t : Fin 96) (f : MgmtFrame) (s : State) : Refused f s (startChannel t f s) ∨
    (s.channels[t].state = .off ∧ s.slotTable[t].enabled = true ∧
      startChannel t f s = answer f .done (setChannel t (Channel.at .probe) s)) ∨
    (s.channels[t].state = .halted ∧
      startChannel t f s = answer f .done (raise .channelState t.1 (setChannel t (Channel.at .probe) s))) := by
  unfold startChannel
  cases hstate : s.channels[t].state with
  | off =>
    by_cases henabled : s.slotTable[t].enabled = true
    · exact .inr (.inl ⟨rfl, henabled, if_pos henabled⟩)
    · exact .inl (by rw [if_neg henabled]; exact answer_refused f (by decide) s)
  | halted => exact .inr (.inr ⟨rfl, rfl⟩)
  | probe | run | halting | retired => exact .inl (answer_refused f (by decide) s)

theorem haltChannel_cases (t : Fin 96) (f : MgmtFrame) (s : State) : Refused f s (haltChannel t f s) ∨
    haltChannel t f s = answer f .done s ∨
    (s.channels[t].serving = true ∧ s.lanes[slotLane t].untimed.length < 8 ∧
      haltChannel t f s = answer f .done (enterHalting t s)) := by
  unfold haltChannel
  cases hstate : s.channels[t].state with
  | run | probe =>
    by_cases hroom : s.lanes[slotLane t].untimed.length < 8
    · exact .inr (.inr ⟨by rw [Channel.serving_iff, hstate]; decide, hroom, if_pos hroom⟩)
    · exact .inl (by dsimp only; rw [if_neg hroom]; exact answer_refused f (by decide) s)
  | halting | halted => exact .inr (.inl rfl)
  | off | retired => exact .inl (answer_refused f (by decide) s)

theorem releaseChannel_cases (t : Fin 96) (f : MgmtFrame) (s : State) : Refused f s (releaseChannel t f s) ∨
    releaseChannel t f s = answer f .done s ∨
    ((s.channels[t].state = .halted ∨ s.channels[t].state = .retired) ∧
      releaseChannel t f s = answer f .done (setChannel t (Channel.at .off) s)) := by
  unfold releaseChannel
  cases hstate : s.channels[t].state with
  | halted => exact .inr (.inr ⟨.inl rfl, rfl⟩)
  | retired => exact .inr (.inr ⟨.inr rfl, rfl⟩)
  | off => exact .inr (.inl rfl)
  | run | probe | halting => exact .inl (answer_refused f (by decide) s)

/-! ### What a management row may touch -/

/-- t differs from s at most in what the writes of SOURCE, SLOT and PATH, the actions on the device and on the gains and
the taking of a frame touch. -/
def OnlySettings (s t : State) : Prop :=
  t = { s with mgmt := t.mgmt, mgmtQueue := t.mgmtQueue, sourceTable := t.sourceTable, latches := t.latches,
               slotTable := t.slotTable, gain := t.gain, pathTable := t.pathTable, pathPending := t.pathPending,
               running := t.running, period := t.period, timer := t.timer }

theorem OnlySettings.refl (s : State) : OnlySettings s s := rfl

theorem OnlySettings.trans {s t u : State} (h : OnlySettings s t) (k : OnlySettings t u) : OnlySettings s u := by
  unfold OnlySettings at *; rw [k, h]

theorem answer_only (f : MgmtFrame) (st : Status) (s : State) : OnlySettings s (answer f st s) := rfl

theorem Refused.only {f : MgmtFrame} {s t : State} (h : Refused f s t) : OnlySettings s t := by
  obtain ⟨r, -, rfl⟩ := h
  rfl

theorem writeSource_only (f : MgmtFrame) (s : State) : OnlySettings s (writeSource f s) := by
  rcases writeSource_cases f s with h | ⟨-, -, -, h⟩
  · exact h.only
  · rw [h]; rfl

theorem writeSlot_only (f : MgmtFrame) (s : State) : OnlySettings s (writeSlot f s) := by
  rcases writeSlot_cases f s with h | ⟨-, -, -, h⟩
  · exact h.only
  · rw [h]; rfl

theorem applyPath_only (f : MgmtFrame) (s : State) : OnlySettings s (applyPath f s) := by
  unfold applyPath
  split <;> rfl

theorem writePath_only (f : MgmtFrame) (s : State) : OnlySettings s (writePath f s) := by
  rcases writePath_cases f s with h | ⟨-, -, -, -, h⟩
  · exact h.only
  · rw [h]; exact (applyPath_only f s).trans (answer_only _ _ _)

theorem actRun_only (f : MgmtFrame) (s : State) : OnlySettings s (actRun f s) := by
  rcases actRun_cases f s with h | ⟨p, -, h⟩
  · exact h.only
  · rw [h]; split <;> rfl

theorem actStop_only (f : MgmtFrame) (s : State) : OnlySettings s (actStop f s) := by
  unfold actStop
  split <;> rfl

theorem actGainRestart_only (t : Fin 96) (f : MgmtFrame) (s : State) : OnlySettings s (actGainRestart t f s) := rfl

theorem mgmtFrameTake_only (s : State) : OnlySettings s (mgmtFrameTake s) := by
  unfold mgmtFrameTake
  split
  · dsimp only
    split <;> rfl
  · exact OnlySettings.refl s

/-- t differs from s at most in the Management Unit, the mask, the sticky flags, the counters and the dump record: what
the reads, the write of NOTICE-MASK, CLEAR-PARITY and DUMP touch. -/
def OnlyReads (s t : State) : Prop :=
  t = { s with mgmt := t.mgmt, noticeMask := t.noticeMask, parityFlags := t.parityFlags, counters := t.counters,
               dump := t.dump }

theorem OnlyReads.refl (s : State) : OnlyReads s s := rfl

theorem OnlyReads.trans {s t u : State} (h : OnlyReads s t) (k : OnlyReads t u) : OnlyReads s u := by
  unfold OnlyReads at *; rw [k, h]

theorem Refused.onlyReads {f : MgmtFrame} {s t : State} (h : Refused f s t) : OnlyReads s t := by
  obtain ⟨r, -, rfl⟩ := h
  rfl

theorem writeOther_only (f : MgmtFrame) (s : State) : OnlyReads s (writeOther f s) := by
  rcases writeOther_cases f s with h | h
  · exact h.onlyReads
  · rw [h]; rfl

theorem readNext_only (f : MgmtFrame) (ws : List Word) (s : State) : OnlyReads s (readNext f ws s) := by
  rcases readNext_cases f ws s with ⟨all, h⟩ | ⟨all, h⟩ <;> (rw [h]; rfl)

theorem readTable_only (f : MgmtFrame) (s : State) : OnlyReads s (readTable f s) := by
  rcases readTable_cases f s with h | h | ⟨all, h⟩
  · exact h.onlyReads
  · rw [h]; exact readNext_only _ _ _
  · rw [h]; rfl

theorem clearCounter_only (off : Nat) (s : State) : OnlyReads s (clearCounter off s) := by
  unfold clearCounter
  split <;> rfl

theorem clearNext_only (f : MgmtFrame) (ws : List Word) (s : State) : OnlyReads s (clearNext f ws s) :=
  (readNext_only f ws s).trans (clearCounter_only _ _)

theorem readClear_only (f : MgmtFrame) (s : State) : OnlyReads s (readClear f s) := by
  rcases readClear_cases f s with h | h
  · exact h.onlyReads
  · rw [h]; exact clearNext_only _ _ _

theorem clearParityFlags_only (f : MgmtFrame) (s : State) : OnlyReads s (clearParityFlags f s) := rfl

theorem actDump_only (f : MgmtFrame) (s : State) : OnlyReads s (actDump f s) := by
  rcases actDump_cases f s with h | ⟨a, b, -, h⟩
  · exact h.onlyReads
  · rw [h]; rfl

/-- t differs from s at most in the Management Unit, the Tap Store and its banks, and the duration of the pass. -/
def OnlyTapAccess (s t : State) : Prop :=
  t = { s with mgmt := t.mgmt, taps := t.taps, bankE := t.bankE, bankO := t.bankO,
               pass := { s.pass with elapsedNs := t.pass.elapsedNs } }

theorem OnlyTapAccess.refl (s : State) : OnlyTapAccess s s := rfl

theorem OnlyTapAccess.trans {s t u : State} (h : OnlyTapAccess s t) (k : OnlyTapAccess t u) : OnlyTapAccess s u := by
  unfold OnlyTapAccess at *; rw [k, h]

theorem OnlyBanks.onlyTapAccess {s t : State} (h : OnlyBanks s t) : OnlyTapAccess s t := by
  unfold OnlyBanks OnlyTapAccess at *; rw [h]

theorem setPhase_onlyTapAccess (f : MgmtFrame) (ph : Phase) (s : State) : OnlyTapAccess s (setPhase f ph s) := rfl

theorem Refused.onlyTapAccess {f : MgmtFrame} {s t : State} (h : Refused f s t) : OnlyTapAccess s t := by
  obtain ⟨r, -, rfl⟩ := h
  exact setPhase_onlyTapAccess f _ s

theorem requestWrites_only (f : MgmtFrame) (bs : List Nat) (s : State) : OnlyBanks s (requestWrites f bs s) := by
  induction bs generalizing s with
  | nil => exact OnlyBanks.refl s
  | cons b bs ih => exact (request_only _ _ s).trans (ih _)

theorem writeTaps_only (f : MgmtFrame) (s : State) : OnlyTapAccess s (writeTaps f s) := by
  rcases writeTaps_cases f s with h | ⟨-, h⟩
  · exact h.onlyTapAccess
  · rw [h]; exact (setPhase_onlyTapAccess f _ s).trans (requestWrites_only _ _ _).onlyTapAccess

theorem requestReads_only (f : MgmtFrame) (s : State) : OnlyTapAccess s (requestReads f s) := by
  unfold requestReads
  dsimp only
  split
  · exact (setPhase_onlyTapAccess f _ s).trans (request_only _ _ _).onlyTapAccess
  · exact (setPhase_onlyTapAccess f _ s).trans ((request_only _ _ _).trans (request_only _ _ _)).onlyTapAccess

theorem readTaps_only (f : MgmtFrame) (s : State) : OnlyTapAccess s (readTaps f s) := by
  rcases readTaps_cases f s with h | h
  · exact h.onlyTapAccess
  · rw [h]; exact requestReads_only _ _

/-- t differs from s at most in the Management Unit, the two tables that PORT holds, and what the commands of a sense
port may touch. -/
def OnlyPortWrite (s t : State) : Prop :=
  t = { s with mgmt := t.mgmt, portTable := t.portTable, laneTable := t.laneTable, ports := t.ports,
               latches := t.latches, mgmtQueue := t.mgmtQueue, counters := t.counters, parityFlags := t.parityFlags,
               notices := t.notices }

theorem OnlyPortWrite.refl (s : State) : OnlyPortWrite s s := rfl

theorem OnlyPortWrite.trans {s t u : State} (h : OnlyPortWrite s t) (k : OnlyPortWrite t u) : OnlyPortWrite s u := by
  unfold OnlyPortWrite at *; rw [k, h]

theorem OnlyPorts.onlyPortWrite {s t : State} (h : OnlyPorts s t) : OnlyPortWrite s t := by
  unfold OnlyPorts OnlyPortWrite at *; rw [h]

theorem answer_onlyPortWrite (f : MgmtFrame) (st : Status) (s : State) : OnlyPortWrite s (answer f st s) := rfl

theorem Refused.onlyPortWrite {f : MgmtFrame} {s t : State} (h : Refused f s t) : OnlyPortWrite s t := by
  obtain ⟨r, -, rfl⟩ := h
  rfl

theorem enableChange_only (old : Vector PortEntry 8) (p : Fin 8) (s : State) : OnlyPorts s (enableChange old p s) := by
  unfold enableChange
  split
  · exact portLeave_only _ _ _
  · exact OnlyPorts.refl s

theorem enableChanges_only (old : Vector PortEntry 8) (ps : List (Fin 8)) (s : State) :
    OnlyPorts s (ps.foldl (fun u p => enableChange old p u) s) := by
  induction ps generalizing s with
  | nil => exact OnlyPorts.refl s
  | cons p ps ih => exact (enableChange_only old p s).trans (ih _)

/-- R169: the PORT tables of a write, before any port changes its state. -/
def portTables (f : MgmtFrame) (s : State) : State := { s with
  portTable := mapEntries (fun e old => if f.touches 4 e then (portImage f e old).getD old else old) s.portTable
  laneTable := mapEntries (fun i old => if f.touches 4 (i + 8) then (laneImage f (i + 8) old).getD old else old)
    s.laneTable }

theorem applyPort_eq (f : MgmtFrame) (s : State) : applyPort f s =
    ([1, 2, 3, 4, 5, 6, 7] : List (Fin 8)).foldl (fun u p => enableChange s.portTable p u) (portTables f s) := rfl

theorem applyPort_only (f : MgmtFrame) (s : State) : OnlyPortWrite s (applyPort f s) := by
  rw [applyPort_eq]
  exact OnlyPortWrite.trans (t := portTables f s) rfl (enableChanges_only _ _ _).onlyPortWrite

theorem writePort_only (f : MgmtFrame) (s : State) : OnlyPortWrite s (writePort f s) := by
  rcases writePort_cases f s with h | ⟨-, -, h⟩
  · exact h.onlyPortWrite
  · rw [h]; exact (applyPort_only f s).trans (answer_onlyPortWrite _ _ _)

theorem actPortReset_only (p : Fin 8) (f : MgmtFrame) (s : State) : OnlyPortWrite s (actPortReset p f s) := by
  unfold actPortReset
  split
  · exact answer_onlyPortWrite f _ s
  · exact (portLeave_only p _ s).onlyPortWrite.trans (answer_onlyPortWrite _ _ _)

/-- t differs from s at most in the Management Unit and in what the commands of a lane may touch. -/
def OnlyChannelAction (s t : State) : Prop :=
  t = { s with mgmt := t.mgmt, lanes := t.lanes, outstanding := t.outstanding, channels := t.channels,
               resumes := t.resumes, reports := t.reports, latches := t.latches, counters := t.counters,
               parityFlags := t.parityFlags, notices := t.notices }

theorem OnlyChannelAction.trans {s t u : State} (h : OnlyChannelAction s t) (k : OnlyChannelAction t u) :
    OnlyChannelAction s u := by
  unfold OnlyChannelAction at *; rw [k, h]

theorem OnlyTraffic.onlyChannelAction {s t : State} (h : OnlyTraffic s t) : OnlyChannelAction s t := by
  unfold OnlyTraffic OnlyChannelAction at *; rw [h]

theorem answer_onlyChannelAction (f : MgmtFrame) (st : Status) (s : State) :
    OnlyChannelAction s (answer f st s) := rfl

/-- An answered effect on the traffic touches the traffic and the Management Unit. -/
theorem OnlyTraffic.answer {s t : State} (h : OnlyTraffic s t) (f : MgmtFrame) (st : Status) :
    OnlyChannelAction s (answer f st t) :=
  h.onlyChannelAction.trans (answer_onlyChannelAction f st t)

theorem Refused.onlyChannelAction {f : MgmtFrame} {s t : State} (h : Refused f s t) : OnlyChannelAction s t := by
  obtain ⟨r, -, rfl⟩ := h
  rfl

theorem startChannel_only (t : Fin 96) (f : MgmtFrame) (s : State) : OnlyChannelAction s (startChannel t f s) := by
  rcases startChannel_cases t f s with h | ⟨-, -, h⟩ | ⟨-, h⟩
  · exact h.onlyChannelAction
  · rw [h]; exact (setChannel_onlyTraffic _ _ s).answer _ _
  · rw [h]; exact ((setChannel_onlyTraffic _ _ s).trans (raise_onlyTraffic _ _ _)).answer _ _

theorem enterHalting_only (t : Fin 96) (s : State) : OnlyTraffic s (enterHalting t s) := by
  rw [enterHalting_eq]
  exact ((setChannel_onlyTraffic _ _ s).trans (setLane_onlyTraffic _ _ _)).trans (laneChoose_onlyTraffic _ _)

theorem haltChannel_only (t : Fin 96) (f : MgmtFrame) (s : State) : OnlyChannelAction s (haltChannel t f s) := by
  rcases haltChannel_cases t f s with h | h | ⟨-, -, h⟩
  · exact h.onlyChannelAction
  · rw [h]; exact (OnlyTraffic.refl s).answer _ _
  · rw [h]; exact (enterHalting_only t s).answer _ _

theorem releaseChannel_only (t : Fin 96) (f : MgmtFrame) (s : State) : OnlyChannelAction s (releaseChannel t f s) := by
  rcases releaseChannel_cases t f s with h | h | ⟨-, h⟩
  · exact h.onlyChannelAction
  · rw [h]; exact (OnlyTraffic.refl s).answer _ _
  · rw [h]; exact (setChannel_onlyTraffic _ _ s).answer _ _

theorem actLaneReset_only (l : Fin 4) (f : MgmtFrame) (s : State) : OnlyChannelAction s (actLaneReset l f s) := by
  unfold actLaneReset
  split
  · exact (laneEnterDown_only l s).answer _ _
  · exact (laneEmpty_only l s).answer _ _

/-! ### RESTART (R174) -/

/-- R95, R111: the gains as RESTART resets them. -/
def restartedGain (s : State) : Vector Gain 96 :=
  mapEntries (fun i g =>
    match s.slotTable.toList[i]? with
    | some e => { g with mu := e.muStart, quietRun := 0, last := none }
    | none => g) s.gain

/-- R111: the engine as RESTART leaves it: the update under way is let end. -/
def restartedEngine (s : State) : Option Service :=
  match s.engine with
  | some v => if v.updating then some { v with abandon := true } else none
  | none => none

/-- R135: the lanes as RESTART leaves them. -/
def restartedLanes (s : State) : Vector Lane 4 :=
  mapEntries (fun _ k => { k with
    timed := [], untimed := [], tx := k.tx.map (fun x => { x with enters := false }) }) s.lanes

/-- R174: what RESTART has emptied and reset before it turns to the pass and to the dump. -/
def restarted (f : MgmtFrame) (s : State) : State :=
  { s with
    running := false, timer := none, pathTable := projected s, pathPending := []
    mgmt := .executing f .restarting
    reports := [], engine := restartedEngine s, gain := restartedGain s
    lanes := restartedLanes s, outstanding := Vector.replicate 96 none, channels := Vector.replicate 96 Channel.reset
    latches := Vector.replicate 48 Latch.reset }

theorem actRestart_eq (f : MgmtFrame) (s : State) :
    actRestart f s = restartDump (restartPass (restarted f s)) := by
  simp only [actRestart, restarted, restartLanes, restartEngine, setPhase, stopDevice, applyPending, restartedEngine,
    restartedGain, restartedLanes] <;> rfl

theorem restartPass_only (s : State) : OnlyPass s (restartPass s) := by
  unfold restartPass
  split
  · exact clearHistory_only s
  · rfl
  · split
    · exact endPass_only _ _
    · rfl

theorem restartDump_only (s : State) : OnlyReturn s (restartDump s) := by
  unfold restartDump
  split
  · exact OnlyReturn.refl s
  · split
    · rfl
    · exact placeAborted_only s
  · exact placeAborted_only s
  · split
    · exact placeAborted_only s
    · exact OnlyReturn.refl s

/-! ### No command touches the queue of commands, or whether the part is held in reset -/

/-- t has the queue of commands and the reset line of s. -/
def SameInput (s t : State) : Prop := t.pending = s.pending ∧ t.resetHeld = s.resetHeld

theorem SameInput.trans {s t u : State} (h : SameInput s t) (k : SameInput t u) : SameInput s u :=
  ⟨k.1.trans h.1, k.2.trans h.2⟩

theorem OnlyPorts.sameInput {s t : State} (h : OnlyPorts s t) : SameInput s t := by rw [h]; exact ⟨rfl, rfl⟩
theorem OnlyTraffic.sameInput {s t : State} (h : OnlyTraffic s t) : SameInput s t := by rw [h]; exact ⟨rfl, rfl⟩
theorem OnlyPass.sameInput {s t : State} (h : OnlyPass s t) : SameInput s t := by rw [h]; exact ⟨rfl, rfl⟩
theorem OnlyStoreUse.sameInput {s t : State} (h : OnlyStoreUse s t) : SameInput s t := by rw [h]; exact ⟨rfl, rfl⟩
theorem OnlyReturn.sameInput {s t : State} (h : OnlyReturn s t) : SameInput s t := by rw [h]; exact ⟨rfl, rfl⟩
theorem OnlySettings.sameInput {s t : State} (h : OnlySettings s t) : SameInput s t := by rw [h]; exact ⟨rfl, rfl⟩
theorem OnlyReads.sameInput {s t : State} (h : OnlyReads s t) : SameInput s t := by rw [h]; exact ⟨rfl, rfl⟩
theorem OnlyTapAccess.sameInput {s t : State} (h : OnlyTapAccess s t) : SameInput s t := by rw [h]; exact ⟨rfl, rfl⟩
theorem OnlyPortWrite.sameInput {s t : State} (h : OnlyPortWrite s t) : SameInput s t := by rw [h]; exact ⟨rfl, rfl⟩
theorem OnlyChannelAction.sameInput {s t : State} (h : OnlyChannelAction s t) : SameInput s t := by
  rw [h]; exact ⟨rfl, rfl⟩

theorem actRestart_sameInput (f : MgmtFrame) (s : State) : SameInput s (actRestart f s) := by
  rw [actRestart_eq]
  have hinput : SameInput s (restarted f s) := by unfold restarted; exact ⟨rfl, rfl⟩
  exact hinput.trans ((restartPass_only _).sameInput.trans (restartDump_only _).sameInput)

/-! ### The commands by what they may touch -/

/-- The commands, grouped by what their effect may touch. -/
inductive Family
  | reset | port | lane | pass | storeUse | setting | reading | tapAccess | portWrite | channel | restart | reply

/-- The group of a command; `effect_onlyPorts` to `effect_onlyReturn` say what each group may touch. -/
def family : Instr → Family
  | .powerOnReset | .resetRelease => .reset
  | .portLinkLock _ | .portLossOfLock _ | .portSymbolError _ | .portWordReceived _ _ | .portStartMark _
  | .portEndMark _ | .portWatchdogExpiry _ | .portRateGateEnd _ => .port
  | .laneLinkLock _ | .laneLossOfLock _ | .laneSymbolError _ | .laneWordReceived _ _ | .laneStartMark _
  | .laneEndMark _ | .laneTransmitEnd _ | .answerWindowExpiry _ _ => .lane
  | .periodExpiry | .passPush | .walkSlot | .passComplete => .pass
  | .tapOperationComplete _ | .reportTake | .adaptPathUpdate => .storeUse
  | .mgmtFrameTake | .mwriteSource | .mwriteSlot | .mwritePath | .run | .stop | .gainRestart => .setting
  | .mwrite | .mread | .mreadCountersClear | .clearParity | .dump => .reading
  | .mwriteTaps | .mreadTaps => .tapAccess
  | .mwritePort | .portReset => .portWrite
  | .startSlot | .haltSlot | .releaseSlot | .laneReset => .channel
  | .restart => .restart
  | .executionComplete | .returnTransmitEnd => .reply

theorem effect_of_reset {c : Instr} (h : family c = .reset) (s : State) : effect c s = s := by
  cases c with
  | powerOnReset | resetRelease => rfl
  | _ => cases h

theorem effect_onlyPorts {c : Instr} (h : family c = .port) (s : State) : OnlyPorts s (effect c s) := by
  cases c with
  | portLinkLock p => exact portLinkLock_only p s
  | portLossOfLock p => exact portLossOfLock_only p s
  | portSymbolError p => exact portSymbolError_only p s
  | portWordReceived p w => exact portWordReceived_only p w s
  | portStartMark p => exact portStartMark_only p s
  | portEndMark p => exact portEndMark_only p s
  | portWatchdogExpiry p => exact portWatchdogExpiry_only p s
  | portRateGateEnd p => exact portRateGateEnd_only p s
  | _ => cases h

theorem effect_onlyTraffic {c : Instr} (h : family c = .lane) (s : State) : OnlyTraffic s (effect c s) := by
  cases c with
  | laneLinkLock l => exact laneLinkLock_only l s
  | laneLossOfLock l => exact laneLossOfLock_only l s
  | laneSymbolError l => exact laneSymbolError_only l s
  | laneWordReceived l w => exact laneWordReceived_only l w s
  | laneStartMark l => exact laneStartMark_only l s
  | laneEndMark l => exact laneEndMark_only l s
  | laneTransmitEnd l => exact laneTransmitEnd_only l s
  | answerWindowExpiry l t => exact answerWindowExpiry_only l t s
  | _ => cases h

theorem effect_onlyPass {c : Instr} (h : family c = .pass) (s : State) : OnlyPass s (effect c s) := by
  cases c with
  | periodExpiry => exact periodExpiry_only s
  | passPush => exact passPush_only s
  | walkSlot => exact walkSlot_only s
  | passComplete => exact passComplete_only s
  | _ => cases h

theorem effect_onlyStoreUse {c : Instr} (h : family c = .storeUse) (s : State) : OnlyStoreUse s (effect c s) := by
  cases c with
  | tapOperationComplete b => exact tapOperationComplete_only b s
  | reportTake => exact reportTake_only s
  | adaptPathUpdate => exact adaptPathUpdate_only s
  | _ => cases h

theorem effect_onlySettings {c : Instr} (h : family c = .setting) (s : State) : OnlySettings s (effect c s) := by
  have hself := OnlySettings.refl s
  cases c with
  | mgmtFrameTake => exact mgmtFrameTake_only s
  | mwriteSource => exact onTaken_keeps hself fun f _ => writeSource_only f s
  | mwriteSlot => exact onTaken_keeps hself fun f _ => writeSlot_only f s
  | mwritePath => exact onTaken_keeps hself fun f _ => writePath_only f s
  | run => exact onTaken_keeps hself fun f _ => actRun_only f s
  | stop => exact onTaken_keeps hself fun f _ => actStop_only f s
  | gainRestart =>
    exact onTaken_keeps hself fun f _ => withArg_keeps (fun st => answer_only f st s) fun t => actGainRestart_only t f s
  | _ => cases h

theorem effect_onlyReads {c : Instr} (h : family c = .reading) (s : State) : OnlyReads s (effect c s) := by
  have hself := OnlyReads.refl s
  cases c with
  | mwrite => exact onTaken_keeps hself fun f _ => writeOther_only f s
  | mread => exact onReading_keeps hself (fun f _ => readTable_only f s) fun f ws _ => readNext_only f ws s
  | mreadCountersClear =>
    exact onReading_keeps hself (fun f _ => readClear_only f s) fun f ws _ => clearNext_only f ws s
  | clearParity => exact onTaken_keeps hself fun f _ => clearParityFlags_only f s
  | dump => exact onTaken_keeps hself fun f _ => actDump_only f s
  | _ => cases h

theorem effect_onlyTapAccess {c : Instr} (h : family c = .tapAccess) (s : State) : OnlyTapAccess s (effect c s) := by
  have hself := OnlyTapAccess.refl s
  cases c with
  | mwriteTaps => exact onTaken_keeps hself fun f _ => writeTaps_only f s
  | mreadTaps => exact onTaken_keeps hself fun f _ => readTaps_only f s
  | _ => cases h

theorem effect_onlyPortWrite {c : Instr} (h : family c = .portWrite) (s : State) : OnlyPortWrite s (effect c s) := by
  have hself := OnlyPortWrite.refl s
  cases c with
  | mwritePort => exact onTaken_keeps hself fun f _ => writePort_only f s
  | portReset =>
    exact onTaken_keeps hself fun f _ =>
      withArg_keeps (fun st => answer_onlyPortWrite f st s) fun p => actPortReset_only p f s
  | _ => cases h

theorem effect_onlyChannelAction {c : Instr} (h : family c = .channel) (s : State) :
    OnlyChannelAction s (effect c s) := by
  have hself : OnlyChannelAction s s := rfl
  have hrefused : ∀ f st, OnlyChannelAction s (answer f st s) := fun f st => answer_onlyChannelAction f st s
  cases c with
  | startSlot => exact onTaken_keeps hself fun f _ => withArg_keeps (hrefused f) fun t => startChannel_only t f s
  | haltSlot => exact onTaken_keeps hself fun f _ => withArg_keeps (hrefused f) fun t => haltChannel_only t f s
  | releaseSlot => exact onTaken_keeps hself fun f _ => withArg_keeps (hrefused f) fun t => releaseChannel_only t f s
  | laneReset => exact onTaken_keeps hself fun f _ => withArg_keeps (hrefused f) fun l => actLaneReset_only l f s
  | _ => cases h

theorem effect_onlyReturn {c : Instr} (h : family c = .reply) (s : State) : OnlyReturn s (effect c s) := by
  cases c with
  | executionComplete => exact executionComplete_only s
  | returnTransmitEnd => exact returnTransmitEnd_only s
  | _ => cases h

/-- RESTART acts on the frame just taken. -/
theorem effect_restart_keeps {P : State → Prop} {c : Instr} (h : family c = .restart) {s : State} (hs : P s)
    (hact : ∀ f, s.mgmt = .executing f .taken → P (actRestart f s)) : P (effect c s) := by
  cases c with
  | restart => exact onTaken_keeps hs hact
  | _ => cases h

theorem effect_sameInput (c : Instr) (s : State) : SameInput s (effect c s) := by
  cases h : family c with
  | reset => rw [effect_of_reset h]; exact ⟨rfl, rfl⟩
  | port => exact (effect_onlyPorts h s).sameInput
  | lane => exact (effect_onlyTraffic h s).sameInput
  | pass => exact (effect_onlyPass h s).sameInput
  | storeUse => exact (effect_onlyStoreUse h s).sameInput
  | setting => exact (effect_onlySettings h s).sameInput
  | reading => exact (effect_onlyReads h s).sameInput
  | tapAccess => exact (effect_onlyTapAccess h s).sameInput
  | portWrite => exact (effect_onlyPortWrite h s).sameInput
  | channel => exact (effect_onlyChannelAction h s).sameInput
  | restart => exact effect_restart_keeps h ⟨rfl, rfl⟩ fun f _ => actRestart_sameInput f s
  | reply => exact (effect_onlyReturn h s).sameInput

theorem exec_powerOnReset_eq (s : State) : exec .powerOnReset s = .next (heldInReset s) := rfl

theorem exec_resetRelease_eq (s : State) :
    exec .resetRelease s = .next (if s.resetHeld then releaseReset s else s) := rfl

theorem heldInReset_pending (s : State) : (heldInReset s).pending = s.pending := rfl

/-- Settles O2: the two reset commands by their equations, every other command by what its effect leaves alone. -/
theorem commandsCompleteAndKeepQueue : Obligations.CommandsCompleteAndKeepQueue := by
  unfold Obligations.CommandsCompleteAndKeepQueue
  intro c s
  by_cases hreset : c = .powerOnReset
  · subst hreset
    exact ⟨heldInReset s, exec_powerOnReset_eq s, heldInReset_pending s, fun _ h => absurd rfl h⟩
  · by_cases hrelease : c = .resetRelease
    · subst hrelease
      refine ⟨if s.resetHeld then releaseReset s else s, exec_resetRelease_eq s, ?_, fun _ _ h => absurd rfl h⟩
      split <;> rfl
    · rw [exec_eq_live hreset hrelease]
      by_cases hheld : s.resetHeld = true
      · exact ⟨s, live_held hheld, rfl, fun _ _ _ => rfl⟩
      · have hawake : s.resetHeld = false := by simpa using hheld
        refine ⟨returnChoose (effect c s), live_awake hawake, ?_, fun h => absurd h hheld⟩
        rw [returnChoose_pending]
        exact (effect_sameInput c s).1

end Machine
end Sys2Proof

namespace Sys2Proof
namespace Machine

/-! ### The state after reset (R201, R202) -/

section Replicate
variable {α : Type} {n : Nat}

theorem replicate_get (x : α) (i : Fin n) : (Vector.replicate n x)[i] = x := by simp

end Replicate

theorem reset_portTable (p : Fin 8) : State.reset.portTable[p] = PortEntry.reset := replicate_get _ p
theorem reset_sourceTable (q : Fin 48) : State.reset.sourceTable[q] = SourceEntry.reset := replicate_get _ q
theorem reset_latches (q : Fin 48) : State.reset.latches[q] = Latch.reset := replicate_get _ q
theorem reset_pathTable (i : Fin 384) : State.reset.pathTable[i] = PathEntry.reset := replicate_get _ i
theorem reset_gain (t : Fin 96) : State.reset.gain[t] = Gain.reset := replicate_get _ t
theorem reset_slotTable (t : Fin 96) : State.reset.slotTable[t] = SlotEntry.reset := replicate_get _ t
theorem reset_channels (t : Fin 96) : State.reset.channels[t] = Channel.reset := replicate_get _ t
theorem reset_outstanding (t : Fin 96) : State.reset.outstanding[t] = none := replicate_get _ t
theorem reset_laneTable (l : Fin 4) : State.reset.laneTable[l] = LaneEntry.reset := replicate_get _ l
theorem reset_lanes (l : Fin 4) : State.reset.lanes[l] = Lane.reset true := replicate_get _ l
theorem reset_noticeMask (k : Fin 13) : State.reset.noticeMask[k] = false := replicate_get _ k

theorem reset_ports (p : Fin 8) :
    State.reset.ports[p] = if p = 0 then Port.reset .dark true else Port.reset .off false := by
  have hports : State.reset.ports = (Vector.replicate 8 (Port.reset .off false)).set 0 (Port.reset .dark true) := rfl
  rw [hports]
  by_cases hp : p = 0
  · subst hp
    rw [if_pos rfl]
    exact vector_set_get _ (0 : Fin 8) _
  · rw [if_neg hp]
    exact (vector_set_get_ne _ 0 p _ hp).trans (replicate_get _ p)

theorem reset_counters (i : CounterId) : State.reset.counters.read i = 0 := by
  have hcounters : State.reset.counters = Counters.reset := rfl
  rw [hcounters]
  cases i <;> simp [Counters.read, Counters.reset]

/-- R202: while RESET_N is low S0's receiver is in DARK without training, the other ports are OFF. -/
theorem heldInReset_ports (s : State) (p : Fin 8) :
    (heldInReset s).ports[p] = if p = 0 then Port.reset .dark false else Port.reset .off false := by
  have hports : (heldInReset s).ports = State.reset.ports.set 0 (Port.reset .dark false) := rfl
  rw [hports]
  by_cases hp : p = 0
  · subst hp
    rw [if_pos rfl]
    exact vector_set_get _ (0 : Fin 8) _
  · rw [if_neg hp]
    exact (vector_set_get_ne _ 0 p _ hp).trans ((reset_ports p).trans (if_neg hp))

theorem heldInReset_lanes (s : State) (l : Fin 4) : (heldInReset s).lanes[l] = Lane.reset false := replicate_get _ l

/-- Settles O4: every value by its field of `State.reset`. -/
theorem resetValues : Obligations.ResetValues := by
  unfold Obligations.ResetValues
  refine ⟨rfl, rfl, rfl, rfl, rfl, rfl, rfl, rfl, rfl, fun _ => rfl, fun _ => rfl, fun p => ?ports, reset_portTable,
    fun q => ⟨reset_sourceTable q, reset_latches q⟩, reset_pathTable, rfl,
    fun t => ⟨reset_channels t, reset_outstanding t, reset_gain t, reset_slotTable t⟩,
    fun l => ⟨reset_laneTable l, reset_lanes l⟩, reset_counters, reset_noticeMask, rfl, rfl, rfl, rfl,
    fun b => by cases b <;> rfl, rfl, rfl, rfl, rfl⟩
  case ports =>
    rw [reset_ports]
    by_cases hp : p = 0
    · rw [if_pos hp, if_pos hp, decide_eq_true hp]; rfl
    · rw [if_neg hp, if_neg hp, decide_eq_false hp]; rfl

/-- R118, R202: at the release every lane trains at the divisor that its table entry holds. -/
theorem releaseReset_lanes (s : State) (l : Fin 4) : (releaseReset s).lanes[l] =
    { s.lanes[l] with training := true, divisorInForce := s.laneTable[l].divisor } := by
  simp [releaseReset]

theorem releaseReset_ports (s : State) (p : Fin 8) :
    (releaseReset s).ports[p] = if p = 0 then { s.ports[0] with training := true } else s.ports[p] := by
  have hports : (releaseReset s).ports = s.ports.set 0 { s.ports[0] with training := true } := rfl
  rw [hports]
  by_cases hp : p = 0
  · subst hp
    rw [if_pos rfl]
    exact vector_set_get _ (0 : Fin 8) _
  · rw [if_neg hp]
    exact vector_set_get_ne _ 0 p _ hp

/-- Two tables with the same entries are one. -/
theorem vector_ext {α : Type} {n : Nat} {v w : Vector α n} (h : ∀ i : Fin n, v[i] = w[i]) : v = w :=
  Vector.ext fun i hi => h ⟨i, hi⟩

theorem releaseReset_heldInReset (s : State) : releaseReset (heldInReset s) =
    { State.reset with resumes := s.resumes, pending := s.pending } := by
  have hports : (releaseReset (heldInReset s)).ports = State.reset.ports := by
    refine vector_ext fun p => ?_
    rw [releaseReset_ports, reset_ports]
    by_cases hp : p = 0
    · rw [if_pos hp, if_pos hp]; rfl
    · rw [if_neg hp, if_neg hp, heldInReset_ports, if_neg hp]
  have hlanes : (releaseReset (heldInReset s)).lanes = State.reset.lanes := by
    refine vector_ext fun l => ?_
    have hdivisor : (heldInReset s).laneTable[l] = LaneEntry.reset := reset_laneTable l
    rw [releaseReset_lanes, reset_lanes, heldInReset_lanes, hdivisor]
    rfl
  calc releaseReset (heldInReset s)
      = { heldInReset s with
          resetHeld := false, ports := (releaseReset (heldInReset s)).ports
          lanes := (releaseReset (heldInReset s)).lanes } := rfl
    _ = { State.reset with resumes := s.resumes, pending := s.pending } := by rw [hports, hlanes]; rfl

/-- Settles O3: the state that power-on reset leaves, and the release of it. -/
theorem resetThenReleaseGivesReset : Obligations.ResetThenReleaseGivesReset := by
  unfold Obligations.ResetThenReleaseGivesReset
  intro s
  refine ⟨heldInReset s, exec_powerOnReset_eq s, rfl, fun p => ?_, fun l => ?_, ?_⟩
  · rw [heldInReset_ports]
    split <;> rfl
  · rw [heldInReset_lanes]; rfl
  · have hheld : (heldInReset s).resetHeld = true := rfl
    rw [exec_resetRelease_eq, if_pos hheld, releaseReset_heldInReset]

end Machine
end Sys2Proof

namespace Sys2Proof
namespace Machine

/-! ### What is kept by the moves of the pass is kept by its commands -/

/-- R59, R76: nothing that happens at the end of a pass breaks P, whichever pass begins and whatever is cleared. -/
theorem endPass_keeps {P : State → Prop} {o : PassOutcome} {s : State} (hover : P (passOver o s))
    (hbegin : ∀ n w u, P u → P (beginPass n w u)) (hclear : ∀ u, P u → P (clearHistory u)) : P (endPass o s) := by
  rw [endPass_eq]
  split
  · exact hbegin _ _ _ hover
  · split
    · exact hclear _ hover
    · exact hover

/-- R65: the pass of s with its walk at position n. -/
def walkTo (n : Nat) (s : State) : State := { s with pass := { s.pass with walkPos := n } }

/-- R65, R73, R74: the walk moves on, to the next slot or past the last one; an ending pass then ends. -/
theorem slotDone_cases (s : State) : ∃ n, (n = s.pass.walkPos + 1 ∨ n = 96) ∧
    (slotDone s = walkTo n s ∨ ∃ o, slotDone s = endPass o (walkTo n s)) := by
  unfold slotDone
  dsimp only
  split
  · exact ⟨_, .inl rfl, .inl rfl⟩
  · refine ⟨overrunPosition s (s.pass.walkPos + 1), ?_, .inr ⟨_, rfl⟩⟩
    unfold overrunPosition
    split
    · exact .inl rfl
    · exact .inr rfl
  · exact ⟨_, .inl rfl, .inr ⟨_, rfl⟩⟩

/-- What WALK_SLOT can do, by what the walk holds. -/
theorem walkSlot_cases (s : State) : walkSlot s = s ∨
    (∃ c, s.pass.comp = some (.compute c) ∧ walkSlot s = slotDone (finishComp c s)) ∨
    (∃ t, s.pass.comp = some (.probe t) ∧ walkSlot s = slotDone (finishProbe t s)) ∨
    ∃ t : Fin 96, s.pass.comp = none ∧ s.pass.walkPos = t.1 ∧ walkSlot s = reachSlot t s := by
  unfold walkSlot
  split
  · split
    · rename_i c hc
      split
      · exact .inr (.inl ⟨c, hc, rfl⟩)
      · exact .inl rfl
    · rename_i t ht
      exact .inr (.inr (.inl ⟨t, ht, rfl⟩))
    · rename_i hnone
      split
      · rename_i t ht
        have hpos : s.pass.walkPos = t.1 := by
          unfold toFin at ht
          split at ht
          · cases ht; rfl
          · cases ht
        exact .inr (.inr (.inr ⟨t, hnone, hpos, rfl⟩))
      · exact .inl rfl
  · exact .inl rfl

/-- R19 to R21: a finished sum is counted where it was clamped, and its entry handed over. -/
theorem finishComp_eq (c : SlotComp) (s : State) : ∃ e u, finishComp c s = handOver e u ∧
    (u = { s with pass := { s.pass with comp := none } } ∨
      u = incr (.slot c.slot .clamp) { s with pass := { s.pass with comp := none } }) := by
  unfold finishComp
  dsimp only
  refine ⟨_, _, rfl, ?_⟩
  split
  · exact .inr rfl
  · exact .inl rfl

/-- R14 to R17: the computation that begins is recorded after the history has been checked; its first read, if any, is
requested. -/
theorem beginComp_cases (t : Fin 96) (s : State) : ∃ (ws : List StoredWord) (p : Pass),
    p.walkPos = s.pass.walkPos ∧ p.stage = s.pass.stage ∧
      (beginComp t s = { checkParity .h ws s with pass := p } ∨
        ∃ b op, beginComp t s = request b op { checkParity .h ws s with pass := p }) := by
  unfold beginComp
  dsimp only
  refine ⟨(pathSet s t).flatMap (pathHistory s), { (addElapsed (pathsNs (pathSet s t))
    (checkParity .h ((pathSet s t).flatMap (pathHistory s)) s)).pass with
      comp := some (.compute ⟨t, s.slotTable[t].shift, s.slotTable[t].limit, 0, (pathSet s t).map (pathJob s)⟩) },
    by simp, by simp, ?_⟩
  split
  · exact .inl rfl
  · exact .inr ⟨_, _, rfl⟩

/-- P is kept by every move that a command of the pass is made of. -/
structure PassClosed (P : State → Prop) : Prop where
  pass : ∀ (s : State) (p : Pass), P s → P { s with pass := p }
  overrun : ∀ s, P s → P (raise .passOverrun 0 s)
  count : ∀ i s, P s → P (incr i s)
  parity : ∀ ws s, P s → P (checkParity .h ws s)
  handOver : ∀ e s, P s → P (handOver e s)
  request : ∀ b op s, P s → P (request b op s)
  apply : ∀ s, P s → P (applyPending s)
  clear : ∀ s, P s → P (clearHistory s)
  push : ∀ s, P s → P (pushSources s)
  expire : ∀ s, s.running = true → P s → P (expire s)

namespace PassClosed
variable {P : State → Prop} (h : PassClosed P)
include h

theorem beginPass (n : Word) (w : Nat) (s : State) (hs : P s) : P (beginPass n w s) :=
  h.pass _ _ (h.apply s hs)

theorem endPass (o : PassOutcome) (s : State) (hs : P s) : P (endPass o s) := by
  refine endPass_keeps ?_ h.beginPass h.clear
  unfold passOver
  dsimp only
  split
  · exact h.overrun _ (h.count _ _ (h.pass s _ hs))
  · exact h.pass s _ hs

theorem periodExpiry (s : State) (hs : P s) : P (periodExpiry s) := by
  rw [periodExpiry_eq]
  split
  · rename_i hrun
    have hexpire := h.expire s hrun hs
    split
    · exact h.beginPass _ _ _ hexpire
    · split
      · exact h.endPass _ _ (h.pass _ _ hexpire)
      · exact h.pass _ _ hexpire
  · exact hs

theorem passPush (s : State) (hs : P s) : P (passPush s) := by
  unfold Machine.passPush
  split
  · have hpush := h.push s hs
    dsimp only
    split
    · exact h.pass _ _ hpush
    · exact h.endPass _ _ hpush
    · exact h.endPass _ _ hpush
  · exact hs

theorem passComplete (s : State) (hs : P s) : P (passComplete s) := by
  unfold Machine.passComplete
  split
  · exact h.endPass _ _ hs
  · exact hs

theorem slotDone (s : State) (hs : P s) : P (slotDone s) := by
  obtain ⟨n, -, hdone | ⟨o, hdone⟩⟩ := slotDone_cases s
  · rw [hdone]; exact h.pass _ _ hs
  · rw [hdone]; exact h.endPass _ _ (h.pass _ _ hs)

theorem walkSlot (s : State) (hs : P s) : P (walkSlot s) := by
  rcases walkSlot_cases s with hwalk | ⟨c, -, hwalk⟩ | ⟨t, -, hwalk⟩ | ⟨t, -, -, hwalk⟩ <;> rw [hwalk]
  · exact hs
  · refine h.slotDone _ ?_
    obtain ⟨e, u, hfinish, rfl | rfl⟩ := finishComp_eq c s <;> rw [hfinish]
    · exact h.handOver _ _ (h.pass _ _ hs)
    · exact h.handOver _ _ (h.count _ _ (h.pass _ _ hs))
  · exact h.slotDone _ (h.handOver _ _ (h.pass _ _ hs))
  · unfold reachSlot
    dsimp only
    split
    · have hreach : P (addElapsed Config.selectedSlotNs s) := h.pass _ _ hs
      split
      · obtain ⟨ws, p, -, -, hbegin | ⟨b, op, hbegin⟩⟩ := beginComp_cases t (addElapsed Config.selectedSlotNs s) <;>
          rw [hbegin]
        · exact h.pass _ _ (h.parity _ _ hreach)
        · exact h.request _ _ _ (h.pass _ _ (h.parity _ _ hreach))
      · exact h.pass _ _ hreach
    · exact h.slotDone _ hs

theorem restartPass (s : State) (hs : P s) : P (restartPass s) := by
  unfold Machine.restartPass
  split
  · exact h.clear _ hs
  · exact h.pass _ _ hs
  · split
    · exact h.endPass _ _ hs
    · exact h.pass _ _ hs

end PassClosed

/-! ### What is kept by the moves of the Adaptation Engine and of a completion is kept by their commands -/

/-- P is kept by every move that a report's taking, a path update or a completion of a bank operation is made of. -/
structure StoreUseClosed (P : State → Prop) : Prop where
  count : ∀ i s, P s → P (incr i s)
  parity : ∀ b ws s, P s → P (checkParity b ws s)
  request : ∀ b op s, P s → P (request b op s)
  next : ∀ b s, (s.bank b).busy.isSome = true → P s → P (takeNext b s)
  report : ∀ (s : State) r rest, s.reports = r :: rest → P s → P { s with reports := rest }
  engine : ∀ (s : State) v, P s → P { s with engine := v }
  adapted : ∀ (s : State) (t : Fin 96) r, P s → P { s with gain := s.gain.set t { s.gain[t] with last := some r } }
  gain : ∀ v s, P s → P (stepGain v s)
  comp : ∀ (s : State) w, s.pass.comp.isSome = true → P s → P { s with pass := { s.pass with comp := some w } }
  dump : ∀ block ws s, P s → P (deliverDump block ws s)
  phase : ∀ (s : State) f ph ph', s.mgmt = .executing f ph → P s → P { s with mgmt := .executing f ph' }

namespace StoreUseClosed
variable {P : State → Prop} (h : StoreUseClosed P)
include h

theorem walkOn (v : Service) (i : Nat) (s : State) (hs : P s) : P (walkOn v i s) := by
  unfold Machine.walkOn
  split
  · exact h.engine _ _ hs
  · exact h.engine _ _ (h.gain v s hs)

theorem reportTake (s : State) (hs : P s) : P (reportTake s) := by
  unfold Machine.reportTake
  split
  · rename_i r rest _ hreports
    have htaken := h.report s r rest hreports hs
    dsimp only
    split
    · exact htaken
    · split
      · exact h.count _ _ htaken
      · split
        · exact h.count _ _ htaken
        · split
          · exact h.walkOn _ _ _ (h.count _ _ (h.adapted _ _ _ htaken))
          · exact h.count _ _ htaken
  · exact hs

theorem adaptPathUpdate (s : State) (hs : P s) : P (adaptPathUpdate s) := by
  unfold Machine.adaptPathUpdate
  split
  · exact hs
  · split
    · exact hs
    · split
      · unfold beginUpdate
        dsimp only
        split
        · split
          · exact h.walkOn _ _ _ (h.parity _ _ _ hs)
          · exact h.request _ _ _ (h.engine _ _ (h.parity _ _ _ hs))
        · exact h.walkOn _ _ _ (h.count _ _ hs)
      · exact h.walkOn _ _ _ hs

theorem counts (i : CounterId) (n : Nat) (s : State) (hs : P s) : P (incrTimes i n s) := by
  induction n generalizing s with
  | zero => exact hs
  | succ n ih => exact ih _ (h.count i s hs)

theorem deliverPass (ws : List StoredWord) (s : State) (hs : P s) : P (deliverPass ws s) := by
  unfold Machine.deliverPass
  split
  · exact hs
  · exact hs
  · rename_i c hcomp
    split
    · exact hs
    · rename_i job rest _
      dsimp only
      have hadded := h.comp s (.compute { c with acc := c.acc + contribution job ws, todo := rest })
        (by rw [hcomp]; rfl) hs
      split
      · exact hadded
      · exact h.request _ _ _ hadded

theorem deliverAdapt (n : Nat) (s : State) (hs : P s) : P (deliverAdapt n s) := by
  unfold Machine.deliverAdapt
  split
  · exact hs
  · rename_i v _
    have hcounted := h.counts (.slot v.slot .saturation) n s hs
    dsimp only
    split
    · exact h.engine _ _ hcounted
    · exact h.walkOn _ _ _ hcounted

theorem deliverMgmtRead (second : Bool) (ws : List StoredWord) (s : State) (hs : P s) :
    P (deliverMgmtRead second ws s) := by
  unfold Machine.deliverMgmtRead
  split
  · rename_i hmgmt
    exact h.phase _ _ _ _ hmgmt hs
  · exact hs

theorem deliverMgmtWrite (s : State) (hs : P s) : P (deliverMgmtWrite s) := by
  unfold Machine.deliverMgmtWrite
  split
  · rename_i hmgmt
    exact h.phase _ _ _ _ hmgmt hs
  · exact hs

theorem tapOperationComplete (b : BankId) (s : State) (hs : P s) : P (tapOperationComplete b s) := by
  unfold Machine.tapOperationComplete
  split
  · exact hs
  · rename_i u hu
    have hchecked := h.parity (ParityBank.ofBank b) u.words _ (h.next b s (by rw [hu]; rfl) hs)
    unfold deliverOp
    dsimp only
    cases u.op with
    | passRead _ _ => exact h.deliverPass _ _ hchecked
    | adaptUpdate _ _ => exact h.deliverAdapt _ _ hchecked
    | dumpRead block => exact h.dump _ _ _ hchecked
    | mgmtRead second _ _ => exact h.deliverMgmtRead _ _ _ hchecked
    | mgmtWrite _ => exact h.deliverMgmtWrite _ hchecked

end StoreUseClosed

/-! ### RESTART, by its two moves -/

/-- R174, R76, R180: RESTART is what it has reset, the end of the pass and the end of the dump. -/
theorem actRestart_keeps {P Q : State → Prop} {f : MgmtFrame} {s : State} (hreset : Q (restarted f s))
    (hpass : ∀ u, Q u → Q (restartPass u)) (hdump : ∀ u, Q u → P (restartDump u)) : P (actRestart f s) := by
  rw [actRestart_eq]
  exact hdump _ (hpass _ hreset)

end Machine
end Sys2Proof

namespace Sys2Proof
namespace Machine

/-! ### What is kept by the moves of a port or of a lane is kept by their commands -/

/-- P is kept by every move that a command of a sense port is made of, whatever the receiver holds. -/
structure PortsClosed (P : State → Prop) : Prop where
  port : ∀ p q s, P s → P (setPort p q s)
  count : ∀ i s, P s → P (incr i s)
  raise : ∀ (k : NoticeKind) (i : Nat) s, i < k.indices → P s → P (raise k i s)
  samples : ∀ p n xs s, P s → P (deliverSamples p n xs s)
  join : ∀ f s, P s → P (mgmtJoin f s)

namespace PortsClosed
variable {P : State → Prop} (h : PortsClosed P)
include h

theorem portLeave (p : Fin 8) (m : PortMode) (s : State) (hs : P s) : P (portLeave p m s) := by
  unfold Machine.portLeave
  dsimp only
  split
  · exact h.raise _ _ _ p.2 (h.port _ _ _ hs)
  · exact h.port _ _ _ hs

theorem portLinkError (p : Fin 8) (s : State) (hs : P s) : P (portLinkError p s) := by
  unfold Machine.portLinkError
  dsimp only
  split
  · split
    · exact h.portLeave _ _ _ hs
    · exact h.port _ _ _ hs
  · exact hs

theorem portTryPass (p : Fin 8) (s : State) (hs : P s) : P (portTryPass p s) := by
  unfold Machine.portTryPass
  dsimp only
  split
  · exact h.raise _ _ _ p.2 (h.port _ _ _ hs)
  · exact hs

theorem portRequalify (p : Fin 8) (s : State) (hs : P s) : P (portRequalify p s) :=
  h.raise _ _ _ p.2 (h.port _ _ _ hs)

theorem portDamagedEffect (p : Fin 8) (s : State) (hs : P s) : P (portDamagedEffect p s) := by
  unfold Machine.portDamagedEffect
  dsimp only
  split
  · exact h.port _ _ _ hs
  · split
    · exact h.portRequalify _ _ hs
    · exact hs
  · exact hs
  · exact hs

theorem portClassEffect (p : Fin 8) (cls : FrameClass) (f : RxFrame) (s : State) (hs : P s) :
    P (portClassEffect p cls f s) := by
  unfold Machine.portClassEffect
  cases cls with
  | valid =>
    unfold portValidEffect
    dsimp only
    split
    · exact h.portTryPass _ _ (h.port _ _ _ hs)
    · exact h.port _ _ _ hs
  | damaged | short | babble => exact h.portDamagedEffect _ _ hs
  | format => exact hs

theorem portDeliver (p : Fin 8) (cls : FrameClass) (f : RxFrame) (s : State) (hs : P s) :
    P (portDeliver p cls f s) := by
  unfold Machine.portDeliver
  split
  · exact hs
  · split
    · split
      · exact h.samples _ _ _ _ hs
      · exact hs
    · split
      · exact h.join _ _ hs
      · exact hs

theorem portFrameEnd (p : Fin 8) (f : RxFrame) (b : Bool) (s : State) (hs : P s) : P (portFrameEnd p f b s) :=
  h.portDeliver _ _ _ _ (h.portClassEffect _ _ _ _ (h.count _ _ (h.count _ _ (h.port _ _ _ hs))))

theorem portOpenFrame (p : Fin 8) (s : State) (hs : P s) : P (portOpenFrame p s) := by
  unfold Machine.portOpenFrame
  dsimp only
  split
  · exact h.port _ _ _ hs
  · exact hs

theorem portStartMark (p : Fin 8) (s : State) (hs : P s) : P (portStartMark p s) := by
  unfold Machine.portStartMark
  dsimp only
  split
  · split
    · exact h.portOpenFrame _ _ hs
    · exact h.portOpenFrame _ _ (h.portLinkError _ _ (h.portFrameEnd _ _ _ _ hs))
  · exact hs

theorem portEndMark (p : Fin 8) (s : State) (hs : P s) : P (portEndMark p s) := by
  unfold Machine.portEndMark
  dsimp only
  split
  · split
    · exact h.portLinkError _ _ hs
    · exact h.portFrameEnd _ _ _ _ hs
  · exact hs

theorem portWatchdogExpiry (p : Fin 8) (s : State) (hs : P s) : P (portWatchdogExpiry p s) := by
  unfold Machine.portWatchdogExpiry
  dsimp only
  split
  · exact hs
  · split
    · exact h.port _ _ _ (h.port _ _ _ hs)
    · exact h.portRequalify _ _ (h.port _ _ _ hs)
    · exact h.port _ _ _ hs
    · exact h.port _ _ _ hs

theorem portRateGateEnd (p : Fin 8) (s : State) (hs : P s) : P (portRateGateEnd p s) := by
  unfold Machine.portRateGateEnd
  dsimp only
  split
  · exact hs
  · split
    · exact h.portTryPass _ _ (h.port _ _ _ hs)
    · split
      · exact h.portRequalify _ _ (h.port _ _ _ hs)
      · exact h.port _ _ _ hs
    · exact h.port _ _ _ hs
    · exact h.port _ _ _ hs

theorem effect {c : Instr} (hfamily : family c = .port) (s : State) (hs : P s) : P (effect c s) := by
  cases c with
  | portLinkLock p =>
    change P (portLinkLock p s)
    unfold portLinkLock
    dsimp only
    split
    · exact h.port _ _ _ hs
    · exact hs
  | portLossOfLock p =>
    change P (portLossOfLock p s)
    unfold portLossOfLock
    split
    · exact h.portLeave _ _ _ hs
    · exact hs
  | portSymbolError p =>
    change P (portSymbolError p s)
    unfold portSymbolError
    dsimp only
    split
    · exact h.portLinkError _ _ (h.port _ _ _ hs)
    · exact hs
  | portWordReceived p w =>
    change P (portWordReceived p w s)
    unfold portWordReceived
    dsimp only
    split
    · exact h.port _ _ _ hs
    · exact hs
  | portStartMark p => exact h.portStartMark p s hs
  | portEndMark p => exact h.portEndMark p s hs
  | portWatchdogExpiry p => exact h.portWatchdogExpiry p s hs
  | portRateGateEnd p => exact h.portRateGateEnd p s hs
  | _ => cases hfamily

theorem enableChanges (old : Vector PortEntry 8) (ps : List (Fin 8)) (s : State) (hs : P s) :
    P (ps.foldl (fun u p => enableChange old p u) s) := by
  induction ps generalizing s with
  | nil => exact hs
  | cons p ps ih =>
    refine ih _ ?_
    change P (enableChange old p s)
    unfold enableChange
    split
    · exact h.portLeave _ _ _ hs
    · exact hs

/-- PORT-RESET and a write of PORT: where P does not read the tables of PORT and the Management Unit's phase either. -/
theorem portWrite {c : Instr} (hfamily : family c = .portWrite) (s : State) (hs : P s)
    (hphase : ∀ f ph u, P u → P (setPhase f ph u)) (htables : ∀ f u, P u → P (portTables f u)) :
    P (Machine.effect c s) := by
  cases c with
  | mwritePort =>
    refine onTaken_keeps hs fun f _ => ?_
    rcases writePort_cases f s with ⟨r, -, hrefused⟩ | ⟨-, -, happly⟩
    · rw [hrefused]; exact hphase _ _ _ hs
    · rw [happly, applyPort_eq]
      exact hphase _ _ _ (h.enableChanges _ _ _ (htables f s hs))
  | portReset =>
    refine onTaken_keeps hs fun f _ => withArg_keeps (fun _ => hphase _ _ _ hs) fun p => ?_
    unfold actPortReset
    refine hphase _ _ _ ?_
    split
    · exact hs
    · exact h.portLeave _ _ _ hs
  | _ => cases hfamily

end PortsClosed

/-- What takeFirst leaves is a sublist. -/
theorem takeFirst_sublist {α : Type} {p : α → Bool} {xs ys : List α} {y : α} (h : takeFirst p xs = some (y, ys)) :
    ys.Sublist xs := by
  obtain ⟨l, r, rfl, rfl, -, -⟩ := takeFirst_spec p xs y ys h
  exact (List.Sublist.refl l).append (List.sublist_cons_self y r)

/-- R160: the arbiter takes one entry out of one of the two queues. -/
theorem laneNext_sublist {s : State} {k : Lane} {f : LaneFrame} {timed : List TimedEntry} {untimed : List HaltEntry}
    (h : laneNext s k = some (f, timed, untimed)) : timed.Sublist k.timed ∧ untimed.Sublist k.untimed := by
  unfold laneNext at h
  split at h
  · rename_i hfirst
    cases h
    exact ⟨List.Sublist.refl _, takeFirst_sublist hfirst⟩
  · split at h
    · rename_i hfirst
      cases h
      exact ⟨takeFirst_sublist hfirst, List.Sublist.refl _⟩
    · split at h
      · rename_i hfirst
        cases h
        exact ⟨List.Sublist.refl _, takeFirst_sublist hfirst⟩
      · cases h

/-- The arbiter's choice changes nothing, or takes an entry from a queue to the line. -/
theorem laneChoose_cases (l : Fin 4) (s : State) : laneChoose l s = s ∨ ∃ f timed untimed,
    s.lanes[l].up = true ∧ s.lanes[l].tx = none ∧ laneNext s s.lanes[l] = some (f, timed, untimed) ∧
      laneChoose l s = setLane l { s.lanes[l] with timed := timed, untimed := untimed, tx := some ⟨f, true⟩ } s := by
  unfold laneChoose
  dsimp only
  split
  · rename_i hfree
    obtain ⟨hup, htx⟩ := Bool.and_eq_true_iff.1 hfree
    split
    · rename_i hnext
      exact .inr ⟨_, _, _, hup, Option.isNone_iff_eq_none.1 htx, hnext, rfl⟩
    · exact .inl rfl
  · exact .inl rfl

/-- R121: the state at a lane's entry to UP, before anything is raised. -/
def laneUp (l : Fin 4) (s : State) : State := { s with
  lanes := s.lanes.set l { s.lanes[l] with up := true, training := false, linkErrors := 0 }
  channels := mapEntries (fun i c =>
    match s.slotTable.toList[i]? with
    | some e => if onLane l i && resumable c e then Channel.at .probe else c
    | none => c) s.channels
  resumes := s.resumes + 1 }

theorem laneEnterUp_eq (l : Fin 4) (s : State) : laneEnterUp l s = laneChoose l (raiseEach .channelState
    (sortByRank (Config.resumeRank s.resumes) (resumedSlots l s)) (raise .laneUp l.1 (laneUp l s))) := rfl

theorem mem_insertByRank {r : Nat → Nat} {t x : Nat} {xs : List Nat} (h : x ∈ insertByRank r t xs) :
    x = t ∨ x ∈ xs := by
  induction xs with
  | nil => exact .inl (List.mem_singleton.1 h)
  | cons y ys ih =>
    unfold insertByRank at h
    split at h
    · exact List.mem_cons.1 h
    · rcases List.mem_cons.1 h with rfl | hmem
      · exact .inr (List.mem_cons_self ..)
      · exact (ih hmem).imp_right (List.mem_cons_of_mem y)

theorem mem_sortByRank {r : Nat → Nat} {x : Nat} {xs : List Nat} (h : x ∈ sortByRank r xs) : x ∈ xs := by
  induction xs with
  | nil => exact h
  | cons y ys ih =>
    rcases mem_insertByRank h with rfl | hmem
    · exact List.mem_cons_self ..
    · exact List.mem_cons_of_mem y (ih hmem)

/-- Only slot numbers are resumed. -/
theorem resumedSlots_lt {l : Fin 4} {s : State} {i : Nat} (h : i ∈ resumedSlots l s) : i < 96 := by
  unfold resumedSlots at h
  obtain ⟨x, hx, hi⟩ := List.mem_filterMap.1 h
  obtain ⟨j, hj⟩ := List.getElem?_of_mem hx
  rw [mapFrom_getElem?] at hj
  obtain ⟨ce, hce, rfl⟩ := Option.map_eq_some_iff.1 hj
  have hlt : j < (s.channels.toList.zip s.slotTable.toList).length := (List.getElem?_eq_some_iff.1 hce).1
  dsimp only at hi
  split at hi
  · cases hi
    simp at hlt
    omega
  · cases hi

/-- P is kept by every move that a command of a lane is made of, whatever the channels, the records and the lanes hold
but for a longer untimed queue. -/
structure LanesClosed (P : State → Prop) : Prop where
  lane : ∀ l k s, k.untimed.Sublist s.lanes[l].untimed → P s → P (setLane l k s)
  empty : ∀ l s, P s → P (laneEmpty l s)
  up : ∀ l s, P s → P (laneUp l s)
  channel : ∀ t c s, P s → P (setChannel t c s)
  record : ∀ t r s, P s → P (setOutstanding t r s)
  count : ∀ i s, P s → P (incr i s)
  raise : ∀ (k : NoticeKind) (i : Nat) s, i < k.indices → P s → P (raise k i s)
  report : ∀ r s, P s → P (reportJoin r s)
  aggressor : ∀ t v s, P s → P (deliverAggressor t v s)

namespace LanesClosed
variable {P : State → Prop} (h : LanesClosed P)
include h

theorem laneChoose (l : Fin 4) (s : State) (hs : P s) : P (laneChoose l s) := by
  rcases laneChoose_cases l s with hsame | ⟨f, timed, untimed, -, -, hnext, hset⟩
  · rwa [hsame]
  · rw [hset]
    exact h.lane _ _ _ (laneNext_sublist hnext).2 hs

theorem flushTimed (t : Fin 96) (s : State) (hs : P s) : P (flushTimed t s) :=
  h.lane _ _ _ (List.Sublist.refl _) hs

theorem channelStatus (t : Fin 96) (k : SentKind) (st : AnswerStatus) (s : State) (hs : P s) :
    P (channelStatus t k st s) := by
  have haccept : P (channelAccept t s) := by
    unfold channelAccept
    split
    · exact h.flushTimed _ _ (h.channel _ _ _ hs)
    · exact h.channel _ _ _ hs
  have hdefer : P (channelDefer t s) := by
    unfold channelDefer
    dsimp only
    split
    · exact h.raise _ _ _ t.2 (h.flushTimed _ _ (h.channel _ _ _ (h.count _ _ hs)))
    · exact h.channel _ _ _ (h.count _ _ hs)
  have hfault : P (channelFault t s) :=
    h.raise _ _ _ t.2 (h.flushTimed _ _ (h.channel _ _ _ (h.count _ _ hs)))
  unfold Machine.channelStatus
  cases s.channels[t].state with
  | run | probe =>
    cases st with
    | accept => exact haccept
    | defer => exact hdefer
    | fault => exact hfault
  | halting =>
    cases k with
    | halt => exact h.channel _ _ _ hs
    | correct | probe => exact hs
  | off | halted | retired => exact hs

theorem channelExpiry (t : Fin 96) (k : SentKind) (s : State) (hs : P s) : P (channelExpiry t k s) := by
  have hmiss : P (channelMiss t s) := by
    unfold channelMiss
    dsimp only
    split
    · exact h.channel _ _ _ (h.count _ _ hs)
    · exact h.raise _ _ _ t.2 (h.flushTimed _ _ (h.channel _ _ _ (h.count _ _ hs)))
  unfold Machine.channelExpiry
  cases s.channels[t].state with
  | run | probe =>
    cases k with
    | halt => exact hs
    | correct | probe => exact hmiss
  | halting =>
    cases k with
    | halt => exact h.raise _ _ _ t.2 (h.count _ _ (h.channel _ _ _ hs))
    | correct | probe => exact hs
  | off | halted | retired => exact hs

theorem laneEnterDown (l : Fin 4) (s : State) (hs : P s) : P (laneEnterDown l s) :=
  h.raise _ _ _ l.2 (h.empty _ _ hs)

theorem laneLinkError (l : Fin 4) (s : State) (hs : P s) : P (laneLinkError l s) := by
  unfold Machine.laneLinkError
  dsimp only
  split
  · split
    · exact h.laneEnterDown _ _ hs
    · exact h.lane _ _ _ (List.Sublist.refl _) hs
  · exact hs

theorem raiseSlots (ts : List Nat) (hts : ∀ t ∈ ts, t < 96) (s : State) (hs : P s) :
    P (raiseEach .channelState ts s) := by
  induction ts generalizing s with
  | nil => exact hs
  | cons t ts ih =>
    refine ih (fun x hx => hts x (List.mem_cons_of_mem t hx)) _ (h.raise _ _ _ ?_ hs)
    exact hts t (List.mem_cons_self ..)

theorem laneEnterUp (l : Fin 4) (s : State) (hs : P s) : P (laneEnterUp l s) := by
  rw [laneEnterUp_eq]
  exact h.laneChoose _ _ (h.raiseSlots _ (fun t ht => resumedSlots_lt (mem_sortByRank ht)) _
    (h.raise _ _ _ l.2 (h.up _ _ hs)))

theorem distribute (a : Answer) (k : SentKind) (s : State) (hs : P s) : P (distribute a k s) := by
  have hstatus := h.channelStatus a.slot k a.status s hs
  unfold Machine.distribute
  dsimp only
  cases a.report with
  | none =>
    cases a.aggressor with
    | none => exact hstatus
    | some v => exact h.aggressor _ _ _ hstatus
  | some x =>
    cases a.aggressor with
    | none => exact h.report _ _ hstatus
    | some v => exact h.aggressor _ _ _ (h.report _ _ hstatus)

theorem answerMatch (l : Fin 4) (a : Answer) (s : State) (hs : P s) : P (answerMatch l a s) := by
  unfold Machine.answerMatch
  split
  · split
    · exact h.laneChoose _ _ (h.distribute _ _ _ (h.count _ _ (h.record _ _ _ hs)))
    · exact h.count _ _ hs
  · exact h.count _ _ hs

theorem laneFrameEnd (l : Fin 4) (f : RxFrame) (b : Bool) (s : State) (hs : P s) : P (laneFrameEnd l f b s) := by
  unfold Machine.laneFrameEnd
  dsimp only
  have hended : P (setLane l { s.lanes[l] with rx := none } s) := h.lane _ _ _ (List.Sublist.refl _) hs
  split
  · exact h.count _ _ hended
  · exact h.laneLinkError _ _ (h.count _ _ hended)
  · exact h.count _ _ hended
  · exact h.count _ _ hended
  · split
    · exact h.answerMatch _ _ _ (h.lane _ _ _ (List.Sublist.refl _) hended)
    · exact hended

theorem laneOpenFrame (l : Fin 4) (s : State) (hs : P s) : P (laneOpenFrame l s) := by
  unfold Machine.laneOpenFrame
  dsimp only
  split
  · exact h.lane _ _ _ (List.Sublist.refl _) hs
  · exact hs

theorem laneStartMark (l : Fin 4) (s : State) (hs : P s) : P (laneStartMark l s) := by
  unfold Machine.laneStartMark
  dsimp only
  split
  · split
    · exact h.laneOpenFrame _ _ hs
    · exact h.laneOpenFrame _ _ (h.laneLinkError _ _ (h.laneFrameEnd _ _ _ _ hs))
  · exact hs

theorem laneEndMark (l : Fin 4) (s : State) (hs : P s) : P (laneEndMark l s) := by
  unfold Machine.laneEndMark
  dsimp only
  split
  · split
    · exact h.laneLinkError _ _ hs
    · exact h.laneFrameEnd _ _ _ _ hs
  · exact hs

theorem laneTransmitEnd (l : Fin 4) (s : State) (hs : P s) : P (laneTransmitEnd l s) := by
  unfold Machine.laneTransmitEnd
  dsimp only
  have hfreed : P (incr (.lane l .sent) (setLane l { s.lanes[l] with tx := none } s)) :=
    h.count _ _ (h.lane _ _ _ (List.Sublist.refl _) hs)
  split
  · exact hs
  · refine h.laneChoose _ _ ?_
    split
    · exact h.record _ _ _ hfreed
    · exact hfreed

theorem answerWindowExpiry (l : Fin 4) (t : Fin 96) (s : State) (hs : P s) : P (answerWindowExpiry l t s) := by
  unfold Machine.answerWindowExpiry
  split
  · split
    · exact hs
    · exact h.laneChoose _ _ (h.channelExpiry _ _ _ (h.record _ _ _ hs))
  · exact hs

theorem effect {c : Instr} (hfamily : family c = .lane) (s : State) (hs : P s) : P (effect c s) := by
  cases c with
  | laneLinkLock l =>
    change P (laneLinkLock l s)
    unfold laneLinkLock
    split
    · exact hs
    · exact h.laneEnterUp l s hs
  | laneLossOfLock l =>
    change P (laneLossOfLock l s)
    unfold laneLossOfLock
    split
    · exact h.laneEnterDown l s hs
    · exact hs
  | laneSymbolError l =>
    change P (laneSymbolError l s)
    unfold laneSymbolError
    dsimp only
    split
    · exact h.laneLinkError _ _ (h.lane _ _ _ (List.Sublist.refl _) hs)
    · exact hs
  | laneWordReceived l w =>
    change P (laneWordReceived l w s)
    unfold laneWordReceived
    dsimp only
    split
    · exact h.lane _ _ _ (List.Sublist.refl _) hs
    · exact hs
  | laneStartMark l => exact h.laneStartMark l s hs
  | laneEndMark l => exact h.laneEndMark l s hs
  | laneTransmitEnd l => exact h.laneTransmitEnd l s hs
  | answerWindowExpiry l t => exact h.answerWindowExpiry l t s hs
  | _ => cases hfamily

theorem handOver (e : TimedEntry) (s : State) (hs : P s) : P (handOver e s) := by
  unfold Machine.handOver
  split
  · refine h.laneChoose _ _ ?_
    have hjoined : P (setLane (slotLane e.slot) { s.lanes[slotLane e.slot] with
        timed := s.lanes[slotLane e.slot].timed.filter (fun x => x.slot ≠ e.slot) ++ [e] } s) :=
      h.lane _ _ _ (List.Sublist.refl _) hs
    unfold joinTimed
    dsimp only
    split
    · exact h.raise _ _ _ e.slot.2 (h.count _ _ hjoined)
    · exact hjoined
  · exact hs

end LanesClosed

/-! ### The two closures of the pass and of the taps' users, by family -/

theorem PassClosed.effect {P : State → Prop} (h : PassClosed P) {c : Instr} (hfamily : family c = .pass) (s : State)
    (hs : P s) : P (effect c s) := by
  cases c with
  | periodExpiry => exact h.periodExpiry s hs
  | passPush => exact h.passPush s hs
  | walkSlot => exact h.walkSlot s hs
  | passComplete => exact h.passComplete s hs
  | _ => cases hfamily

theorem StoreUseClosed.effect {P : State → Prop} (h : StoreUseClosed P) {c : Instr} (hfamily : family c = .storeUse)
    (s : State) (hs : P s) : P (effect c s) := by
  cases c with
  | tapOperationComplete b => exact h.tapOperationComplete b s hs
  | reportTake => exact h.reportTake s hs
  | adaptPathUpdate => exact h.adaptPathUpdate s hs
  | _ => cases hfamily

end Machine
end Sys2Proof

namespace Sys2Proof
namespace Machine

/-! ### What is kept by the moves of the return is kept by its commands -/

/-- P is kept by every move that the return's side makes: the places and the line, the Management Unit's and the dump
engine's state, a dump read's request, the oldest notice's leaving and the end of a dump. -/
structure ReturnClosed (P : State → Prop) : Prop where
  ret : ∀ (s : State) r, P s → P { s with ret := r }
  mgmt : ∀ (s : State) m, P s → P { s with mgmt := m }
  dump : ∀ (s : State) d, P s → P { s with dump := d }
  read : ∀ s, P s → P (requestDumpRead s)
  taken : ∀ (s : State) n rest, s.notices = n :: rest → P s → P { s with notices := rest }
  done : ∀ s, P s → P (raise .dumpDone 0 s)

namespace ReturnClosed
variable {P : State → Prop} (h : ReturnClosed P)
include h

theorem placeReply (r : Reply) (s : State) (hs : P s) : P (placeReply r s) := by
  have hplaced := h.mgmt _ .idle (h.ret s { s.ret with replyPlace := some r } hs)
  unfold Machine.placeReply
  dsimp only
  split
  · exact h.read _ hplaced
  · exact hplaced

theorem placeDumpFrame (d : DumpFrame) (s : State) (hs : P s) : P (placeDumpFrame d s) := by
  have hplaced := h.ret s { s.ret with dumpPlace := some d } hs
  unfold Machine.placeDumpFrame
  dsimp only
  split
  · exact h.dump _ _ hplaced
  · exact h.read _ (h.dump _ _ hplaced)

theorem placeAborted (s : State) (hs : P s) : P (placeAborted s) :=
  h.dump _ _ (h.ret s { s.ret with dumpPlace := some (abortedFrame s) } hs)

theorem placeReady (s : State) (hs : P s) : P (placeReady s) := by
  unfold Machine.placeReady
  split
  · split
    · exact h.placeReply _ _ hs
    · exact hs
  · exact hs

theorem returnTake (s : State) (hs : P s) : P (returnTake s) := by
  unfold Machine.returnTake
  split
  · exact hs
  · dsimp only
    split
    · exact h.placeReply _ _ (h.ret _ _ hs)
    · exact h.ret _ _ hs
    · exact h.ret _ _ hs
  · rename_i hnotices
    exact h.ret _ _ (h.taken _ _ _ hnotices hs)
  · dsimp only
    split
    · exact h.placeDumpFrame _ _ (h.ret _ _ hs)
    · exact h.ret _ _ hs
  · exact hs

theorem returnChoose (s : State) (hs : P s) : P (returnChoose s) := by
  have hsettle : ∀ u, P u → P (settleRestart u) := by
    intro u hu
    unfold settleRestart
    split
    · split
      · exact h.mgmt _ _ hu
      · exact hu
    · exact hu
  unfold Machine.returnChoose
  refine hsettle _ ?_
  split
  · exact hs
  · exact h.returnTake _ (h.placeReady _ hs)

theorem deliverDump (block : Fin 512) (ws : List StoredWord) (s : State) (hs : P s) : P (deliverDump block ws s) := by
  unfold Machine.deliverDump
  split
  · exact h.placeAborted _ hs
  · dsimp only
    split
    · exact h.placeDumpFrame _ _ hs
    · exact h.dump _ _ hs

theorem restartDump (s : State) (hs : P s) : P (restartDump s) := by
  unfold Machine.restartDump
  split
  · exact hs
  · split
    · exact h.dump _ _ hs
    · exact h.placeAborted _ hs
  · exact h.placeAborted _ hs
  · split
    · exact h.placeAborted _ hs
    · exact hs

theorem effect {c : Instr} (hfamily : family c = .reply) (s : State) (hs : P s) : P (effect c s) := by
  cases c with
  | executionComplete =>
    change P (executionComplete s)
    unfold executionComplete
    split
    · exact hs
    · split
      · exact h.placeReply _ _ hs
      · exact h.mgmt _ _ hs
  | returnTransmitEnd =>
    change P (returnTransmitEnd s)
    unfold returnTransmitEnd
    split
    · exact hs
    · have hfreed := h.ret s { s.ret with line := none } hs
      dsimp only
      split
      · exact h.done _ (h.dump _ _ hfreed)
      · exact hfreed
  | _ => cases hfamily

end ReturnClosed

/-! ### An invariant kept by every effect and by the return arbiter is kept by every step -/

theorem step_keeps_of_effect {P : State → Prop}
    (hqueue : ∀ (s : State) (q : List Instr), P s → P { s with pending := q })
    (hheld : ∀ s, P (heldInReset s)) (hrelease : ∀ s, P s → P (releaseReset s))
    (hreturn : ∀ s, P s → P (returnChoose s)) (heffect : ∀ c s, P s → P (effect c s)) {s t : State}
    (h : step s = .next t) (hs : P s) : P t :=
  step_keeps hqueue hheld hrelease (fun c u hu => hreturn _ (heffect c u hu)) h hs

/-! ### The stores stay canonical (log entry 22) -/

namespace StoresCanonical

/-- The invariant reads the two stores only. -/
theorem of_eq {s t : State} (hs : StoresCanonical s) (htaps : t.taps = s.taps) (hhistory : t.history = s.history) :
    StoresCanonical t :=
  ⟨by rw [htaps]; exact hs.taps, by rw [hhistory]; exact hs.history⟩

theorem request (b : BankId) (op : BankOp) (s : State) (hs : StoresCanonical s) : StoresCanonical (request b op s) := by
  refine ⟨?_, by rw [request_only b op s]; exact hs.history⟩
  unfold Machine.request
  split
  · exact takeOp_wf _ _ hs.taps
  · rw [setBank_taps]; exact hs.taps

theorem takeNext (b : BankId) (s : State) (hs : StoresCanonical s) : StoresCanonical (takeNext b s) := by
  refine ⟨?_, by rw [takeNext_only b s]; exact hs.history⟩
  unfold Machine.takeNext
  dsimp only
  split
  · exact takeOp_wf _ _ (by rw [setBank_taps]; exact hs.taps)
  · exact takeOp_wf _ _ (by rw [setBank_taps]; exact hs.taps)
  · exact takeOp_wf _ _ (by rw [setBank_taps]; exact hs.taps)
  · exact takeOp_wf _ _ (by rw [setBank_taps]; exact hs.taps)
  · rw [setBank_taps]; exact hs.taps

theorem passClosed : PassClosed StoresCanonical where
  pass _ _ hs := hs.of_eq rfl rfl
  overrun _ hs := hs.of_eq (raise_taps ..) (raise_history ..)
  count _ _ hs := hs.of_eq (incr_taps ..) (incr_history ..)
  parity _ _ hs := hs.of_eq (checkParity_taps ..) (checkParity_history ..)
  handOver e s hs := by rw [handOver_only e s]; exact hs.of_eq rfl rfl
  request := request
  apply _ hs := hs.of_eq rfl rfl
  clear _ hs := ⟨hs.taps, rfl⟩
  push _ hs := ⟨hs.taps, Store.wf_writeAll hs.history _⟩
  expire _ _ hs := hs.of_eq rfl rfl

theorem storeUseClosed : StoreUseClosed StoresCanonical where
  count _ _ hs := hs.of_eq (incr_taps ..) (incr_history ..)
  parity _ _ _ hs := hs.of_eq (checkParity_taps ..) (checkParity_history ..)
  request := request
  next b s _ := takeNext b s
  report _ _ _ _ hs := hs.of_eq rfl rfl
  engine _ _ hs := hs.of_eq rfl rfl
  adapted _ _ _ hs := hs.of_eq rfl rfl
  gain _ _ hs := hs.of_eq rfl rfl
  comp _ _ _ hs := hs.of_eq rfl rfl
  dump _ _ _ hs := by rw [deliverDump_only]; exact hs.of_eq rfl rfl
  phase _ _ _ _ _ hs := hs.of_eq rfl rfl

theorem requestWrites (f : MgmtFrame) (bs : List Nat) (s : State) (hs : StoresCanonical s) :
    StoresCanonical (requestWrites f bs s) := by
  induction bs generalizing s with
  | nil => exact hs
  | cons b bs ih => exact ih _ (request _ _ _ hs)

theorem tapAccess {c : Instr} (hfamily : family c = .tapAccess) (s : State) (hs : StoresCanonical s) :
    StoresCanonical (effect c s) := by
  have hphase : ∀ f ph, StoresCanonical (setPhase f ph s) := fun f ph => hs.of_eq rfl rfl
  cases c with
  | mwriteTaps =>
    refine onTaken_keeps hs fun f _ => ?_
    rcases writeTaps_cases f s with ⟨r, -, h⟩ | ⟨-, h⟩ <;> rw [h]
    · exact hphase f _
    · exact requestWrites _ _ _ (hphase f _)
  | mreadTaps =>
    refine onTaken_keeps hs fun f _ => ?_
    rcases readTaps_cases f s with ⟨r, -, h⟩ | h <;> rw [h]
    · exact hphase f _
    · unfold requestReads
      dsimp only
      split
      · exact request _ _ _ (hphase f _)
      · exact request _ _ _ (request _ _ _ (hphase f _))
  | _ => cases hfamily

theorem restart (f : MgmtFrame) (s : State) (hs : StoresCanonical s) : StoresCanonical (actRestart f s) := by
  refine actRestart_keeps (Q := StoresCanonical) ?_ passClosed.restartPass fun u hu => ?_
  · unfold restarted; exact hs.of_eq rfl rfl
  · rw [restartDump_only u]; exact hu.of_eq rfl rfl

theorem effect (c : Instr) (s : State) (hs : StoresCanonical s) : StoresCanonical (effect c s) := by
  cases h : family c with
  | reset => rw [effect_of_reset h]; exact hs
  | port => rw [effect_onlyPorts h s]; exact hs.of_eq rfl rfl
  | lane => rw [effect_onlyTraffic h s]; exact hs.of_eq rfl rfl
  | pass => exact passClosed.effect h s hs
  | storeUse => exact storeUseClosed.effect h s hs
  | setting => rw [effect_onlySettings h s]; exact hs.of_eq rfl rfl
  | reading => rw [effect_onlyReads h s]; exact hs.of_eq rfl rfl
  | tapAccess => exact tapAccess h s hs
  | portWrite => rw [effect_onlyPortWrite h s]; exact hs.of_eq rfl rfl
  | channel => rw [effect_onlyChannelAction h s]; exact hs.of_eq rfl rfl
  | restart => exact effect_restart_keeps h hs fun f _ => restart f s hs
  | reply => rw [effect_onlyReturn h s]; exact hs.of_eq rfl rfl

theorem reset : StoresCanonical State.reset := ⟨rfl, rfl⟩

theorem step {s t : State} (h : step s = .next t) (hs : StoresCanonical s) : StoresCanonical t :=
  step_keeps_of_effect (fun _ _ hs => hs.of_eq rfl rfl) (fun _ => reset.of_eq rfl rfl) (fun _ hs => hs.of_eq rfl rfl)
    (fun _ hs => hs.of_eq (returnChoose_taps _) (returnChoose_history _)) effect h hs

end StoresCanonical

end Machine
end Sys2Proof

namespace Sys2Proof
namespace Machine

/-! ### The device: timer, period, push and walk position (R53, R54, R57, R59, R61) -/

namespace DeviceLegal

/-- The invariant reads the timer, the period, the push position, the walk position, and whether a slot is being
computed. -/
theorem of_eq {s t : State} (hs : DeviceLegal s) (htimer : t.timer = s.timer) (hrunning : t.running = s.running)
    (hperiod : t.period = s.period) (hpush : t.pushPos = s.pushPos) (hwalk : t.pass.walkPos = s.pass.walkPos)
    (hcomp : t.pass.comp.isSome = true → s.pass.comp.isSome = true) : DeviceLegal t := by
  refine ⟨by rw [htimer, hrunning]; exact hs.timer, by rw [hperiod]; exact hs.period, by rw [hpush]; exact hs.push,
    by rw [hwalk]; exact hs.walk, fun h => ?_⟩
  rw [hwalk]
  exact hs.comp (hcomp h)

theorem passOver (o : PassOutcome) {s : State} (hs : DeviceLegal s) : DeviceLegal (passOver o s) := by
  have hidle : DeviceLegal { s with
      pass := { s.pass with stage := .idle, lastOutcome := o, ending := none, comp := none } } :=
    hs.of_eq rfl rfl rfl rfl rfl (fun h => by cases h)
  unfold Machine.passOver
  dsimp only
  split
  · rw [((incr_only _ _).trans (raise_only _ _ _) : OnlyCounts _ (raise .passOverrun 0 (incr _ _)))]
    exact hidle.of_eq rfl rfl rfl rfl rfl id
  · exact hidle

theorem endPass (o : PassOutcome) {s : State} (hs : DeviceLegal s) : DeviceLegal (endPass o s) :=
  endPass_keeps (hs.passOver o)
    (fun _ _ _ hu => ⟨hu.timer, hu.period, hu.push, Nat.zero_le _, fun _ => Nat.zero_lt_succ _⟩)
    fun _ hu => ⟨hu.timer, hu.period, Nat.zero_lt_succ _, hu.walk, hu.comp⟩

theorem periodExpiry (s : State) (hs : DeviceLegal s) : DeviceLegal (periodExpiry s) := by
  rw [periodExpiry_eq]
  split
  · rename_i hrun
    have hexpire : DeviceLegal (expire s) :=
      ⟨⟨fun _ => hrun, fun _ => rfl⟩, hs.period, hs.push, hs.walk, hs.comp⟩
    split
    · exact ⟨hexpire.timer, hexpire.period, hexpire.push, Nat.zero_le _, fun _ => Nat.zero_lt_succ _⟩
    · have hcut : DeviceLegal (cutPass (expire s)) := hexpire.of_eq rfl rfl rfl rfl rfl id
      split
      · exact hcut.endPass _
      · exact hcut
  · exact hs

theorem passPush (s : State) (hs : DeviceLegal s) : DeviceLegal (passPush s) := by
  unfold Machine.passPush
  split
  · have hpush : DeviceLegal (pushSources s) :=
      ⟨hs.timer, hs.period, Nat.mod_lt _ (Nat.zero_lt_succ _), hs.walk, hs.comp⟩
    dsimp only
    split
    · exact ⟨hpush.timer, hpush.period, hpush.push, Nat.zero_le _, fun _ => Nat.zero_lt_succ _⟩
    · exact hpush.endPass _
    · exact hpush.endPass _
  · exact hs

/-- The walk moves on from a slot that is no longer being computed, to position 96 at most. -/
theorem slotDone {s : State} (hs : DeviceLegal s) (hpos : s.pass.walkPos < 96) (hcomp : s.pass.comp = none) :
    DeviceLegal (slotDone s) := by
  have hmoved : ∀ n, (n = s.pass.walkPos + 1 ∨ n = 96) → DeviceLegal (walkTo n s) := by
    intro n hn
    refine ⟨hs.timer, hs.period, hs.push, ?_, fun h => ?_⟩
    · change n ≤ 96
      omega
    · have hsome : s.pass.comp.isSome = true := h
      rw [hcomp] at hsome
      cases hsome
  obtain ⟨n, hn, h | ⟨o, h⟩⟩ := slotDone_cases s <;> rw [h]
  · exact hmoved n hn
  · exact (hmoved n hn).endPass o

theorem handOver (e : TimedEntry) {s : State} (hs : DeviceLegal s) : DeviceLegal (handOver e s) := by
  rw [handOver_only e s]
  exact hs.of_eq rfl rfl rfl rfl rfl id

/-- The entry of a slot is handed over, and the walk moves on. -/
theorem handOverDone (e : TimedEntry) {s : State} (hs : DeviceLegal s) (hpos : s.pass.walkPos < 96)
    (hcomp : s.pass.comp = none) : DeviceLegal (Machine.slotDone (Machine.handOver e s)) := by
  have hpass : (Machine.handOver e s).pass = s.pass := by rw [handOver_only e s]
  exact slotDone (hs.handOver e) (by rw [hpass]; exact hpos) (by rw [hpass]; exact hcomp)

theorem reachSlot {t : Fin 96} {s : State} (hs : DeviceLegal s) (hpos : s.pass.walkPos = t.1)
    (hcomp : s.pass.comp = none) : DeviceLegal (reachSlot t s) := by
  have hlt : s.pass.walkPos < 96 := hpos ▸ t.2
  unfold Machine.reachSlot
  dsimp only
  split
  · have hcomputed : ∀ (u : State) (p : Pass), DeviceLegal u → p.walkPos = s.pass.walkPos →
        DeviceLegal { u with pass := p } := fun u p hu hp =>
      ⟨hu.timer, hu.period, hu.push, hp ▸ hs.walk, fun _ => hp ▸ hlt⟩
    split
    · have hchecked : ∀ ws, DeviceLegal (checkParity .h ws (addElapsed Config.selectedSlotNs s)) := fun ws => by
        rw [checkParity_only]
        exact hs.of_eq rfl rfl rfl rfl rfl id
      obtain ⟨ws, p, hp, -, h | ⟨b, op, h⟩⟩ := beginComp_cases t (addElapsed Config.selectedSlotNs s) <;> rw [h]
      · exact hcomputed _ _ (hchecked ws) hp
      · rw [request_only]
        exact (hcomputed _ _ (hchecked ws) hp).of_eq rfl rfl rfl rfl rfl id
    · exact hcomputed s _ hs rfl
  · exact slotDone hs hlt hcomp

theorem walkSlot (s : State) (hs : DeviceLegal s) : DeviceLegal (walkSlot s) := by
  have hdone : DeviceLegal { s with pass := { s.pass with comp := none } } :=
    hs.of_eq rfl rfl rfl rfl rfl (fun h => by cases h)
  rcases walkSlot_cases s with h | ⟨c, hc, h⟩ | ⟨t, ht, h⟩ | ⟨t, hnone, hpos, h⟩ <;> rw [h]
  · exact hs
  · have hlt : s.pass.walkPos < 96 := hs.comp (by rw [hc]; rfl)
    obtain ⟨e, u, hfinish, hu⟩ := finishComp_eq c s
    have hcount : OnlyCounts { s with pass := { s.pass with comp := none } } u := by
      rcases hu with rfl | rfl
      · exact OnlyCounts.refl _
      · exact incr_only _ _
    rw [hfinish, hcount]
    exact handOverDone e (hdone.of_eq rfl rfl rfl rfl rfl id) hlt rfl
  · exact handOverDone _ hdone (hs.comp (by rw [ht]; rfl)) rfl
  · exact reachSlot hs hpos hnone

theorem passComplete (s : State) (hs : DeviceLegal s) : DeviceLegal (passComplete s) := by
  unfold Machine.passComplete
  split
  · exact hs.endPass _
  · exact hs

theorem storeUseClosed : StoreUseClosed DeviceLegal where
  count i s hs := by rw [incr_only i s]; exact hs.of_eq rfl rfl rfl rfl rfl id
  parity b ws s hs := by rw [checkParity_only b ws s]; exact hs.of_eq rfl rfl rfl rfl rfl id
  request b op s hs := by rw [request_only b op s]; exact hs.of_eq rfl rfl rfl rfl rfl id
  next b s _ hs := by rw [takeNext_only b s]; exact hs.of_eq rfl rfl rfl rfl rfl id
  report _ _ _ _ hs := hs.of_eq rfl rfl rfl rfl rfl id
  engine _ _ hs := hs.of_eq rfl rfl rfl rfl rfl id
  adapted _ _ _ hs := hs.of_eq rfl rfl rfl rfl rfl id
  gain _ _ hs := hs.of_eq rfl rfl rfl rfl rfl id
  comp _ _ hcomp hs := hs.of_eq rfl rfl rfl rfl rfl fun _ => hcomp
  dump block ws s hs := by rw [deliverDump_only block ws s]; exact hs.of_eq rfl rfl rfl rfl rfl id
  phase _ _ _ _ _ hs := hs.of_eq rfl rfl rfl rfl rfl id

theorem run (f : MgmtFrame) (s : State) (hs : DeviceLegal s) : DeviceLegal (actRun f s) := by
  rcases actRun_cases f s with ⟨r, -, h⟩ | ⟨p, hp, h⟩ <;> rw [h]
  · exact hs.of_eq rfl rfl rfl rfl rfl id
  · have hperiod : 16 ≤ p ∧ p ≤ 250 := by
      rcases hp with rfl | hp
      · exact hs.period
      · exact hp
    split
    · exact ⟨hs.timer, hperiod, hs.push, hs.walk, hs.comp⟩
    · exact ⟨⟨fun _ => rfl, fun _ => rfl⟩, hperiod, hs.push, hs.walk, hs.comp⟩

theorem stop (f : MgmtFrame) (s : State) (hs : DeviceLegal s) : DeviceLegal (actStop f s) := by
  unfold actStop
  split
  · exact ⟨iff_of_false Bool.false_ne_true Bool.false_ne_true, hs.period, hs.push, hs.walk, hs.comp⟩
  · exact hs.of_eq rfl rfl rfl rfl rfl id

theorem setting {c : Instr} (hfamily : family c = .setting) (s : State) (hs : DeviceLegal s) :
    DeviceLegal (effect c s) := by
  cases c with
  | mgmtFrameTake =>
    change DeviceLegal (mgmtFrameTake s)
    unfold mgmtFrameTake
    split
    · dsimp only
      split <;> exact hs.of_eq rfl rfl rfl rfl rfl id
    · exact hs
  | mwriteSource =>
    refine onTaken_keeps hs fun f _ => ?_
    rcases writeSource_cases f s with ⟨r, -, h⟩ | ⟨-, -, -, h⟩ <;> rw [h] <;> exact hs.of_eq rfl rfl rfl rfl rfl id
  | mwriteSlot =>
    refine onTaken_keeps hs fun f _ => ?_
    rcases writeSlot_cases f s with ⟨r, -, h⟩ | ⟨-, -, -, h⟩ <;> rw [h] <;> exact hs.of_eq rfl rfl rfl rfl rfl id
  | mwritePath =>
    refine onTaken_keeps hs fun f _ => ?_
    rcases writePath_cases f s with ⟨r, -, h⟩ | ⟨-, -, -, -, h⟩ <;> rw [h]
    · exact hs.of_eq rfl rfl rfl rfl rfl id
    · unfold applyPath
      split <;> exact hs.of_eq rfl rfl rfl rfl rfl id
  | run => exact onTaken_keeps hs fun f _ => run f s hs
  | stop => exact onTaken_keeps hs fun f _ => stop f s hs
  | gainRestart =>
    exact onTaken_keeps hs fun f _ => withArg_keeps (fun _ => hs.of_eq rfl rfl rfl rfl rfl id) fun _ =>
      hs.of_eq rfl rfl rfl rfl rfl id
  | _ => cases hfamily

theorem restart (f : MgmtFrame) (s : State) (hs : DeviceLegal s) : DeviceLegal (actRestart f s) := by
  refine actRestart_keeps (Q := DeviceLegal) ?_ (fun u hu => ?_) fun u hu => ?_
  · unfold restarted
    exact ⟨iff_of_false Bool.false_ne_true Bool.false_ne_true, hs.period, hs.push, hs.walk, hs.comp⟩
  · unfold restartPass
    split
    · exact ⟨hu.timer, hu.period, Nat.zero_lt_succ _, hu.walk, hu.comp⟩
    · exact hu.of_eq rfl rfl rfl rfl rfl id
    · split
      · exact hu.endPass _
      · exact hu.of_eq rfl rfl rfl rfl rfl id
  · rw [restartDump_only u]; exact hu.of_eq rfl rfl rfl rfl rfl id

theorem effect (c : Instr) (s : State) (hs : DeviceLegal s) : DeviceLegal (effect c s) := by
  cases h : family c with
  | reset => rw [effect_of_reset h]; exact hs
  | port => rw [effect_onlyPorts h s]; exact hs.of_eq rfl rfl rfl rfl rfl id
  | lane => rw [effect_onlyTraffic h s]; exact hs.of_eq rfl rfl rfl rfl rfl id
  | pass =>
    cases c with
    | periodExpiry => exact periodExpiry s hs
    | passPush => exact passPush s hs
    | walkSlot => exact walkSlot s hs
    | passComplete => exact passComplete s hs
    | _ => cases h
  | storeUse => exact storeUseClosed.effect h s hs
  | setting => exact setting h s hs
  | reading => rw [effect_onlyReads h s]; exact hs.of_eq rfl rfl rfl rfl rfl id
  | tapAccess => rw [effect_onlyTapAccess h s]; exact hs.of_eq rfl rfl rfl rfl rfl id
  | portWrite => rw [effect_onlyPortWrite h s]; exact hs.of_eq rfl rfl rfl rfl rfl id
  | channel => rw [effect_onlyChannelAction h s]; exact hs.of_eq rfl rfl rfl rfl rfl id
  | restart => exact effect_restart_keeps h hs fun f _ => restart f s hs
  | reply => rw [effect_onlyReturn h s]; exact hs.of_eq rfl rfl rfl rfl rfl id

theorem reset : DeviceLegal State.reset where
  timer := iff_of_false Bool.false_ne_true Bool.false_ne_true
  period := ⟨by decide, by decide⟩
  push := by decide
  walk := by decide
  comp := fun h => by cases h

theorem step {s t : State} (h : step s = .next t) (hs : DeviceLegal s) : DeviceLegal t :=
  step_keeps_of_effect (fun _ _ hs => hs.of_eq rfl rfl rfl rfl rfl id) (fun _ => reset.of_eq rfl rfl rfl rfl rfl id)
    (fun _ hs => hs.of_eq rfl rfl rfl rfl rfl id)
    (fun s hs => by rw [returnChoose_only s]; exact hs.of_eq rfl rfl rfl rfl rfl id) effect h hs

end DeviceLegal

end Machine
end Sys2Proof

namespace Sys2Proof
namespace Machine

/-! ### The queues stay within their capacities (R10, R91, R158, R164) -/

theorem toList_getElem?_fin {α : Type} {n : Nat} (v : Vector α n) (i : Fin n) : v.toList[i.1]? = some v[i] := by
  simp

theorem setLane_lanes_get (l m : Fin 4) (k : Lane) (s : State) :
    (setLane l k s).lanes[m] = if m = l then k else s.lanes[m] := by
  by_cases hm : m = l
  · rw [if_pos hm, hm]
    exact setLane_get l k s
  · rw [if_neg hm]
    exact setLane_get_ne l m k s hm

theorem markAged_lanes_get (s : State) (l : Fin 4) : (markAged s).lanes[l] =
    { s.lanes[l] with untimed := s.lanes[l].untimed.map (fun e => { e with aged := true }) } := by
  simp [markAged]

/-- R118, R120: what a lane's emptying leaves of each lane. -/
theorem laneEmpty_lanes_get (l m : Fin 4) (s : State) : (laneEmpty l s).lanes[m] =
    if m = l then downLane s.laneTable[l].divisor else s.lanes[m] :=
  setLane_lanes_get l m (downLane s.laneTable[l].divisor) s

theorem laneUp_lanes_get (l m : Fin 4) (s : State) : (laneUp l s).lanes[m] =
    if m = l then { s.lanes[l] with up := true, training := false, linkErrors := 0 } else s.lanes[m] :=
  setLane_lanes_get l m _ s

namespace QueuesBounded

theorem of_eq {s t : State} (hs : QueuesBounded s) (hreports : t.reports = s.reports)
    (hmgmt : t.mgmtQueue = s.mgmtQueue) (hpending : t.pathPending = s.pathPending) (hrunning : t.running = s.running)
    (hlanes : t.lanes = s.lanes) : QueuesBounded t :=
  ⟨by rw [hreports]; exact hs.reports, by rw [hmgmt]; exact hs.mgmt, by rw [hpending]; exact hs.pending,
    by rw [hrunning, hpending]; exact hs.stopped, by rw [hlanes]; exact hs.untimed⟩

/-- Lane l changed, its untimed queue within its capacity. -/
theorem setLane {l : Fin 4} {k : Lane} {s : State} (hk : k.untimed.length ≤ 8) (hs : QueuesBounded s) :
    QueuesBounded (setLane l k s) := by
  refine ⟨hs.reports, hs.mgmt, hs.pending, hs.stopped, fun m => ?_⟩
  rw [setLane_lanes_get]
  split
  · exact hk
  · exact hs.untimed m

theorem count {s t : State} (h : OnlyCounts s t) (hs : QueuesBounded s) : QueuesBounded t := by
  rw [h]; exact hs.of_eq rfl rfl rfl rfl rfl

theorem portsClosed : PortsClosed QueuesBounded where
  port _ _ _ hs := hs.of_eq rfl rfl rfl rfl rfl
  count i s hs := hs.count (incr_only i s)
  raise k i s _ hs := hs.count (raise_only k i s)
  samples _ _ _ _ hs := hs.of_eq rfl rfl rfl rfl rfl
  join f s hs := by
    unfold mgmtJoin
    split
    · rename_i hroom
      refine ⟨hs.reports, ?_, hs.pending, hs.stopped, hs.untimed⟩
      change (s.mgmtQueue ++ [f]).length ≤ 4
      rw [List.length_append]
      exact hroom
    · exact (hs.count (incr_only _ _)).count (raise_only _ _ _)

theorem lanesClosed : LanesClosed QueuesBounded where
  lane l _ _ hsub hs := hs.setLane (hsub.length_le.trans (hs.untimed l))
  empty l s hs := by
    refine ⟨hs.reports, hs.mgmt, hs.pending, hs.stopped, fun m => ?_⟩
    rw [laneEmpty_lanes_get]
    split
    · exact Nat.zero_le _
    · exact hs.untimed m
  up l s hs := by
    refine ⟨hs.reports, hs.mgmt, hs.pending, hs.stopped, fun m => ?_⟩
    rw [laneUp_lanes_get]
    split
    · exact hs.untimed l
    · exact hs.untimed m
  channel _ _ _ hs := hs.of_eq rfl rfl rfl rfl rfl
  record _ _ _ hs := hs.of_eq rfl rfl rfl rfl rfl
  count i s hs := hs.count (incr_only i s)
  raise k i s _ hs := hs.count (raise_only k i s)
  report r s hs := by
    unfold reportJoin
    split
    · rename_i hroom
      refine ⟨?_, hs.mgmt, hs.pending, hs.stopped, hs.untimed⟩
      change (s.reports ++ [r]).length ≤ 16
      rw [List.length_append]
      exact hroom
    · exact (hs.count (incr_only _ _)).count (raise_only _ _ _)
  aggressor _ _ _ hs := hs.of_eq rfl rfl rfl rfl rfl

theorem passClosed : PassClosed QueuesBounded where
  pass _ _ hs := hs.of_eq rfl rfl rfl rfl rfl
  overrun s hs := hs.count (raise_only _ _ s)
  count i s hs := hs.count (incr_only i s)
  parity ws s hs := hs.count (checkParity_only .h ws s)
  handOver e s hs := lanesClosed.handOver e s hs
  request b op s hs := by rw [request_only b op s]; exact hs.of_eq rfl rfl rfl rfl rfl
  apply _ hs := ⟨hs.reports, hs.mgmt, Nat.zero_le _, fun _ => rfl, hs.untimed⟩
  clear _ hs := hs.of_eq rfl rfl rfl rfl rfl
  push _ hs := hs.of_eq rfl rfl rfl rfl rfl
  expire s _ hs := by
    refine ⟨hs.reports, hs.mgmt, hs.pending, hs.stopped, fun l => ?_⟩
    unfold Machine.expire
    rw [markAged_lanes_get]
    simpa using hs.untimed l

theorem storeUseClosed : StoreUseClosed QueuesBounded where
  count i s hs := hs.count (incr_only i s)
  parity b ws s hs := hs.count (checkParity_only b ws s)
  request b op s hs := by rw [request_only b op s]; exact hs.of_eq rfl rfl rfl rfl rfl
  next b s _ hs := by rw [takeNext_only b s]; exact hs.of_eq rfl rfl rfl rfl rfl
  report s r rest hreports hs := by
    have hlen := hs.reports
    rw [hreports] at hlen
    exact ⟨Nat.le_of_succ_le hlen, hs.mgmt, hs.pending, hs.stopped, hs.untimed⟩
  engine _ _ hs := hs.of_eq rfl rfl rfl rfl rfl
  adapted _ _ _ hs := hs.of_eq rfl rfl rfl rfl rfl
  gain _ _ hs := hs.of_eq rfl rfl rfl rfl rfl
  comp _ _ _ hs := hs.of_eq rfl rfl rfl rfl rfl
  dump block ws s hs := by rw [deliverDump_only block ws s]; exact hs.of_eq rfl rfl rfl rfl rfl
  phase _ _ _ _ _ hs := hs.of_eq rfl rfl rfl rfl rfl

/-- R9, R168: the write that was not refused for BUSY leaves the pending list within its capacity. -/
theorem writePath (f : MgmtFrame) (s : State) (hs : QueuesBounded s) : QueuesBounded (writePath f s) := by
  rcases writePath_cases f s with ⟨r, -, h⟩ | ⟨-, -, -, hroom, h⟩ <;> rw [h]
  · exact hs.of_eq rfl rfl rfl rfl rfl
  · unfold applyPath
    split
    · rename_i hrun
      refine ⟨hs.reports, hs.mgmt, ?_, fun hstopped => ?_, hs.untimed⟩
      · change (s.pathPending ++ pathUpdates f s).length ≤ 16
        have hupdates : (pathUpdates f s).length ≤ (f.touched 3).length := List.length_filterMap_le _ _
        rw [List.length_append]
        have := hroom hrun
        omega
      · have hfalse : s.running = false := hstopped
        rw [hrun] at hfalse
        cases hfalse
    · exact hs.of_eq rfl rfl rfl rfl rfl

theorem setting {c : Instr} (hfamily : family c = .setting) (s : State) (hs : QueuesBounded s) :
    QueuesBounded (effect c s) := by
  cases c with
  | mgmtFrameTake =>
    change QueuesBounded (mgmtFrameTake s)
    unfold mgmtFrameTake
    split
    · rename_i rest _ hqueue
      have hlen := hs.mgmt
      rw [hqueue] at hlen
      have htaken : QueuesBounded { s with mgmtQueue := rest } :=
        ⟨hs.reports, Nat.le_of_succ_le hlen, hs.pending, hs.stopped, hs.untimed⟩
      dsimp only
      split <;> exact htaken.of_eq rfl rfl rfl rfl rfl
    · exact hs
  | mwriteSource =>
    refine onTaken_keeps hs fun f _ => ?_
    rcases writeSource_cases f s with ⟨r, -, h⟩ | ⟨-, -, -, h⟩ <;> rw [h] <;> exact hs.of_eq rfl rfl rfl rfl rfl
  | mwriteSlot =>
    refine onTaken_keeps hs fun f _ => ?_
    rcases writeSlot_cases f s with ⟨r, -, h⟩ | ⟨-, -, -, h⟩ <;> rw [h] <;> exact hs.of_eq rfl rfl rfl rfl rfl
  | mwritePath => exact onTaken_keeps hs fun f _ => writePath f s hs
  | run =>
    refine onTaken_keeps hs fun f _ => ?_
    rcases actRun_cases f s with ⟨r, -, h⟩ | ⟨p, -, h⟩ <;> rw [h]
    · exact hs.of_eq rfl rfl rfl rfl rfl
    · split
      · exact hs.of_eq rfl rfl rfl rfl rfl
      · exact ⟨hs.reports, hs.mgmt, hs.pending, (fun h => by cases h), hs.untimed⟩
  | stop =>
    refine onTaken_keeps hs fun f _ => ?_
    unfold actStop
    split
    · exact ⟨hs.reports, hs.mgmt, Nat.zero_le _, fun _ => rfl, hs.untimed⟩
    · exact hs.of_eq rfl rfl rfl rfl rfl
  | gainRestart =>
    exact onTaken_keeps hs fun f _ => withArg_keeps (fun _ => hs.of_eq rfl rfl rfl rfl rfl) fun _ =>
      hs.of_eq rfl rfl rfl rfl rfl
  | _ => cases hfamily

theorem answered (f : MgmtFrame) (st : Status) {s : State} (hs : QueuesBounded s) : QueuesBounded (answer f st s) :=
  hs.of_eq rfl rfl rfl rfl rfl

/-- R142, R158: a HALT entry joins an untimed queue with room. -/
theorem enterHalting {t : Fin 96} {s : State} (hroom : s.lanes[slotLane t].untimed.length < 8) (hs : QueuesBounded s) :
    QueuesBounded (enterHalting t s) := by
  rw [enterHalting_eq]
  refine lanesClosed.laneChoose _ _ (setLane ?_ (lanesClosed.channel _ _ _ hs))
  rw [List.length_append]
  exact hroom

theorem channel {c : Instr} (hfamily : family c = .channel) (s : State) (hs : QueuesBounded s) :
    QueuesBounded (effect c s) := by
  have hchannel : ∀ t c, QueuesBounded (setChannel t c s) := fun t c => lanesClosed.channel t c s hs
  cases c with
  | startSlot =>
    refine onTaken_keeps hs fun f _ => withArg_keeps (fun _ => hs.answered _ _) fun t => ?_
    rcases startChannel_cases t f s with ⟨r, -, h⟩ | ⟨-, -, h⟩ | ⟨-, h⟩ <;> rw [h]
    · exact hs.of_eq rfl rfl rfl rfl rfl
    · exact (hchannel t _).answered _ _
    · exact ((hchannel t _).count (raise_only _ _ _)).answered _ _
  | haltSlot =>
    refine onTaken_keeps hs fun f _ => withArg_keeps (fun _ => hs.answered _ _) fun t => ?_
    rcases haltChannel_cases t f s with ⟨r, -, h⟩ | h | ⟨-, hroom, h⟩ <;> rw [h]
    · exact hs.of_eq rfl rfl rfl rfl rfl
    · exact hs.answered _ _
    · exact (hs.enterHalting hroom).answered _ _
  | releaseSlot =>
    refine onTaken_keeps hs fun f _ => withArg_keeps (fun _ => hs.answered _ _) fun t => ?_
    rcases releaseChannel_cases t f s with ⟨r, -, h⟩ | h | ⟨-, h⟩ <;> rw [h]
    · exact hs.of_eq rfl rfl rfl rfl rfl
    · exact hs.answered _ _
    · exact (hchannel t _).answered _ _
  | laneReset =>
    refine onTaken_keeps hs fun f _ => withArg_keeps (fun _ => hs.answered _ _) fun l => ?_
    unfold actLaneReset
    split
    · exact (lanesClosed.laneEnterDown l s hs).answered _ _
    · exact (lanesClosed.empty l s hs).answered _ _
  | _ => cases hfamily

/-- R174: RESTART empties the report queue, the pending list and the lanes' queues. -/
theorem restart (f : MgmtFrame) (s : State) (hs : QueuesBounded s) : QueuesBounded (actRestart f s) := by
  refine actRestart_keeps (Q := QueuesBounded) ?_ passClosed.restartPass fun u hu => ?_
  · unfold restarted
    refine ⟨Nat.zero_le _, hs.mgmt, Nat.zero_le _, fun _ => rfl, fun l => ?_⟩
    have huntimed : (restartedLanes s)[l].untimed = [] := by simp [restartedLanes]
    change (restartedLanes s)[l].untimed.length ≤ 8
    rw [huntimed]
    exact Nat.zero_le _
  · rw [restartDump_only u]; exact hu.of_eq rfl rfl rfl rfl rfl

theorem effect (c : Instr) (s : State) (hs : QueuesBounded s) : QueuesBounded (effect c s) := by
  cases h : family c with
  | reset => rw [effect_of_reset h]; exact hs
  | port => exact portsClosed.effect h s hs
  | lane => exact lanesClosed.effect h s hs
  | pass => exact passClosed.effect h s hs
  | storeUse => exact storeUseClosed.effect h s hs
  | setting => exact setting h s hs
  | reading => rw [effect_onlyReads h s]; exact hs.of_eq rfl rfl rfl rfl rfl
  | tapAccess => rw [effect_onlyTapAccess h s]; exact hs.of_eq rfl rfl rfl rfl rfl
  | portWrite =>
    exact portsClosed.portWrite h s hs (fun _ _ _ hu => hu.of_eq rfl rfl rfl rfl rfl) fun _ _ hu =>
      hu.of_eq rfl rfl rfl rfl rfl
  | channel => exact channel h s hs
  | restart => exact effect_restart_keeps h hs fun f _ => restart f s hs
  | reply => rw [effect_onlyReturn h s]; exact hs.of_eq rfl rfl rfl rfl rfl

theorem reset : QueuesBounded State.reset where
  reports := by decide
  mgmt := by decide
  pending := by decide
  stopped := fun _ => rfl
  untimed := fun l => by rw [reset_lanes]; exact Nat.zero_le _

theorem held (s : State) : QueuesBounded (heldInReset s) := by
  refine ⟨reset.reports, reset.mgmt, reset.pending, reset.stopped, fun l => ?_⟩
  rw [heldInReset_lanes]
  exact Nat.zero_le _

theorem release (s : State) (hs : QueuesBounded s) : QueuesBounded (releaseReset s) := by
  refine ⟨hs.reports, hs.mgmt, hs.pending, hs.stopped, fun l => ?_⟩
  rw [releaseReset_lanes]
  exact hs.untimed l

theorem step {s t : State} (h : step s = .next t) (hs : QueuesBounded s) : QueuesBounded t :=
  step_keeps_of_effect (fun _ _ hs => hs.of_eq rfl rfl rfl rfl rfl) held release
    (fun s hs => by rw [returnChoose_only s]; exact hs.of_eq rfl rfl rfl rfl rfl) effect h hs

end QueuesBounded

/-! ### The notice list (R189, R190) -/

/-- R189: the condition key of an entry. -/
def Notice.key (n : Notice) : NoticeKind × Nat := (n.kind, n.index)

/-- R190: a raise adds the key, at the tail, only where no entry has it. -/
theorem addNotice_keys (k : NoticeKind) (i : Nat) (ns : List Notice) : (addNotice k i ns).map Notice.key =
    if (k, i) ∈ ns.map Notice.key then ns.map Notice.key else ns.map Notice.key ++ [(k, i)] := by
  induction ns with
  | nil => rfl
  | cons n ns ih =>
    unfold addNotice
    by_cases hn : n.kind = k ∧ n.index = i
    · rw [if_pos hn, if_pos]
      · rfl
      · rw [List.map_cons, ← hn.1, ← hn.2]
        exact List.mem_cons_self ..
    · have hkey : ¬ (k, i) = n.key := fun h => hn (by cases h; exact ⟨rfl, rfl⟩)
      rw [if_neg hn, List.map_cons, List.map_cons, ih]
      simp only [List.mem_cons, hkey, false_or]
      split <;> rfl

/-- R190: an entry after a raise is an older one, an older one with one occurrence more, or a new one. -/
theorem mem_addNotice {k : NoticeKind} {i : Nat} {ns : List Notice} {n : Notice} (h : n ∈ addNotice k i ns) :
    n ∈ ns ∨ (∃ m ∈ ns, n = { m with count := min 255 (m.count + 1) }) ∨ n = ⟨k, i, 1⟩ := by
  induction ns with
  | nil => exact .inr (.inr (List.mem_singleton.1 h))
  | cons m ms ih =>
    unfold addNotice at h
    split at h
    · rcases List.mem_cons.1 h with rfl | hmem
      · exact .inr (.inl ⟨m, List.mem_cons_self .., rfl⟩)
      · exact .inl (List.mem_cons_of_mem m hmem)
    · rcases List.mem_cons.1 h with rfl | hmem
      · exact .inl (List.mem_cons_self ..)
      · rcases ih hmem with hold | ⟨x, hx, rfl⟩ | hnew
        · exact .inl (List.mem_cons_of_mem m hold)
        · exact .inr (.inl ⟨x, List.mem_cons_of_mem m hx, rfl⟩)
        · exact .inr (.inr hnew)

namespace NoticesLegal

theorem of_eq {s t : State} (hs : NoticesLegal s) (h : t.notices = s.notices) : NoticesLegal t :=
  ⟨by rw [h]; exact hs.once, by rw [h]; exact hs.index, by rw [h]; exact hs.count⟩

theorem raise (k : NoticeKind) (i : Nat) (s : State) (hi : i < k.indices) (hs : NoticesLegal s) :
    NoticesLegal (raise k i s) := by
  unfold Machine.raise
  split
  · refine ⟨?_, fun n hn => ?_, fun n hn => ?_⟩
    · have honce : (s.notices.map Notice.key).Nodup := hs.once
      change ((addNotice k i s.notices).map Notice.key).Nodup
      rw [addNotice_keys]
      split
      · exact honce
      · rename_i hnew
        exact List.nodup_append.2 ⟨honce, List.nodup_singleton _, fun a ha b hb hab =>
          hnew (by rw [← List.mem_singleton.1 hb, ← hab]; exact ha)⟩
    · rcases mem_addNotice hn with hold | ⟨m, hm, rfl⟩ | rfl
      · exact hs.index n hold
      · exact hs.index m hm
      · exact hi
    · rcases mem_addNotice hn with hold | ⟨m, hm, rfl⟩ | rfl
      · exact hs.count n hold
      · have := hs.count m hm
        dsimp only
        omega
      · exact ⟨Nat.le_refl 1, Nat.le_add_left 1 254⟩
  · exact hs

theorem incr (i : CounterId) (s : State) (hs : NoticesLegal s) : NoticesLegal (incr i s) := by
  unfold Machine.incr
  dsimp only
  split
  · exact hs
  · split
    · exact raise .counterFull 0 _ Nat.one_pos (hs.of_eq rfl)
    · exact hs.of_eq rfl

theorem checkParity (b : ParityBank) (ws : List StoredWord) (s : State) (hs : NoticesLegal s) :
    NoticesLegal (checkParity b ws s) := by
  have hindex : b.index < NoticeKind.parity.indices := by cases b <;> decide
  induction ws generalizing s with
  | nil => exact hs
  | cons w ws ih =>
    refine ih _ ?_
    split
    · exact hs
    · exact raise _ _ _ hindex ((incr _ s hs).of_eq rfl)

theorem returnClosed : ReturnClosed NoticesLegal where
  ret _ _ hs := hs.of_eq rfl
  mgmt _ _ hs := hs.of_eq rfl
  dump _ _ hs := hs.of_eq rfl
  read s hs := by rw [requestDumpRead_frame s]; exact hs.of_eq rfl
  taken s n rest h hs := by
    have honce := hs.once
    have hindex := hs.index
    have hcount := hs.count
    rw [h] at honce hindex hcount
    exact ⟨(List.nodup_cons.1 honce).2, fun m hm => hindex m (List.mem_cons_of_mem n hm),
      fun m hm => hcount m (List.mem_cons_of_mem n hm)⟩
  done s hs := raise _ _ s Nat.one_pos hs

theorem portsClosed : PortsClosed NoticesLegal where
  port _ _ _ hs := hs.of_eq rfl
  count := incr
  raise := raise
  samples _ _ _ _ hs := hs.of_eq rfl
  join f s hs := by
    unfold mgmtJoin
    split
    · exact hs.of_eq rfl
    · exact raise _ _ _ Nat.one_pos (incr _ s hs)

theorem lanesClosed : LanesClosed NoticesLegal where
  lane _ _ _ _ hs := hs.of_eq rfl
  empty _ _ hs := hs.of_eq rfl
  up _ _ hs := hs.of_eq rfl
  channel _ _ _ hs := hs.of_eq rfl
  record _ _ _ hs := hs.of_eq rfl
  count := incr
  raise := raise
  report r s hs := by
    unfold reportJoin
    split
    · exact hs.of_eq rfl
    · exact raise _ _ _ Nat.one_pos (incr _ s hs)
  aggressor _ _ _ hs := hs.of_eq rfl

theorem passClosed : PassClosed NoticesLegal where
  pass _ _ hs := hs.of_eq rfl
  overrun s hs := raise _ _ s Nat.one_pos hs
  count := incr
  parity := checkParity .h
  handOver := lanesClosed.handOver
  request b op s hs := by rw [request_only b op s]; exact hs.of_eq rfl
  apply _ hs := hs.of_eq rfl
  clear _ hs := hs.of_eq rfl
  push _ hs := hs.of_eq rfl
  expire _ _ hs := hs.of_eq rfl

theorem storeUseClosed : StoreUseClosed NoticesLegal where
  count := incr
  parity := checkParity
  request b op s hs := by rw [request_only b op s]; exact hs.of_eq rfl
  next b s _ hs := by rw [takeNext_only b s]; exact hs.of_eq rfl
  report _ _ _ _ hs := hs.of_eq rfl
  engine _ _ hs := hs.of_eq rfl
  adapted _ _ _ hs := hs.of_eq rfl
  gain _ _ hs := hs.of_eq rfl
  comp _ _ _ hs := hs.of_eq rfl
  dump := returnClosed.deliverDump
  phase _ _ _ _ _ hs := hs.of_eq rfl

theorem channel {c : Instr} (hfamily : family c = .channel) (s : State) (hs : NoticesLegal s) :
    NoticesLegal (effect c s) := by
  cases c with
  | startSlot =>
    refine onTaken_keeps hs fun f _ => withArg_keeps (fun _ => hs.of_eq rfl) fun t => ?_
    rcases startChannel_cases t f s with ⟨r, -, h⟩ | ⟨-, -, h⟩ | ⟨-, h⟩ <;> rw [h]
    · exact hs.of_eq rfl
    · exact hs.of_eq rfl
    · exact (raise _ _ _ t.2 (lanesClosed.channel t _ s hs)).of_eq rfl
  | haltSlot =>
    refine onTaken_keeps hs fun f _ => withArg_keeps (fun _ => hs.of_eq rfl) fun t => ?_
    rcases haltChannel_cases t f s with ⟨r, -, h⟩ | h | ⟨-, -, h⟩ <;> rw [h]
    · exact hs.of_eq rfl
    · exact hs.of_eq rfl
    · have hhalting : NoticesLegal (enterHalting t s) := by
        rw [enterHalting_eq]
        exact lanesClosed.laneChoose _ _ (hs.of_eq rfl)
      exact hhalting.of_eq rfl
  | releaseSlot =>
    refine onTaken_keeps hs fun f _ => withArg_keeps (fun _ => hs.of_eq rfl) fun t => ?_
    rcases releaseChannel_cases t f s with ⟨r, -, h⟩ | h | ⟨-, h⟩ <;> rw [h] <;> exact hs.of_eq rfl
  | laneReset =>
    refine onTaken_keeps hs fun f _ => withArg_keeps (fun _ => hs.of_eq rfl) fun l => ?_
    unfold actLaneReset
    split
    · exact (lanesClosed.laneEnterDown l s hs).of_eq rfl
    · exact hs.of_eq rfl
  | _ => cases hfamily

theorem restart (f : MgmtFrame) (s : State) (hs : NoticesLegal s) : NoticesLegal (actRestart f s) :=
  actRestart_keeps (by unfold restarted; exact hs.of_eq rfl) passClosed.restartPass returnClosed.restartDump

theorem effect (c : Instr) (s : State) (hs : NoticesLegal s) : NoticesLegal (effect c s) := by
  cases h : family c with
  | reset => rw [effect_of_reset h]; exact hs
  | port => exact portsClosed.effect h s hs
  | lane => exact lanesClosed.effect h s hs
  | pass => exact passClosed.effect h s hs
  | storeUse => exact storeUseClosed.effect h s hs
  | setting => rw [effect_onlySettings h s]; exact hs.of_eq rfl
  | reading => rw [effect_onlyReads h s]; exact hs.of_eq rfl
  | tapAccess => rw [effect_onlyTapAccess h s]; exact hs.of_eq rfl
  | portWrite => exact portsClosed.portWrite h s hs (fun _ _ _ hu => hu.of_eq rfl) fun _ _ hu => hu.of_eq rfl
  | channel => exact channel h s hs
  | restart => exact effect_restart_keeps h hs fun f _ => restart f s hs
  | reply => exact returnClosed.effect h s hs

theorem reset : NoticesLegal State.reset :=
  ⟨List.nodup_nil, fun _ h => absurd h List.not_mem_nil, fun _ h => absurd h List.not_mem_nil⟩

theorem step {s t : State} (h : step s = .next t) (hs : NoticesLegal s) : NoticesLegal t :=
  step_keeps_of_effect (fun _ _ hs => hs.of_eq rfl) (fun _ => reset.of_eq rfl) (fun _ hs => hs.of_eq rfl)
    returnClosed.returnChoose effect h hs

end NoticesLegal

/-- Settles O57: each of the four invariants is kept by every command's effect and by the return arbiter's choice. -/
theorem stepKeepsStoresAndQueues : Obligations.StepKeepsStoresAndQueues := by
  unfold Obligations.StepKeepsStoresAndQueues
  exact fun s t h => ⟨StoresCanonical.step h, QueuesBounded.step h, DeviceLegal.step h, NoticesLegal.step h⟩

end Machine
end Sys2Proof

namespace Sys2Proof
namespace Machine

/-! ### The entries that a write touches, and what it makes of them (R7, R167 to R169) -/

theorem mem_touched {f : MgmtFrame} {w e : Nat} : e ∈ f.touched w ↔ f.touches w e = true := by
  simp only [MgmtFrame.touched, MgmtFrame.touches, List.mem_range'_1, Bool.and_eq_true, decide_eq_true_eq]
  omega

/-- A check of the touched entries finds none that fails it. -/
theorem find?_touched_eq_none {f : MgmtFrame} {w : Nat} {p : Nat → Bool} (h : (f.touched w).find? p = none) {e : Nat}
    (he : f.touches w e = true) : p e = false := by
  have hnot := List.find?_eq_none.1 h e (mem_touched.2 he)
  simpa using hnot

/-- What an any over numbered entries says, when it is false. -/
theorem mapFrom_any_eq_false {α : Type} {n : Nat} {g : Nat → α → Bool} {v : Vector α n}
    (h : (mapFrom g 0 v.toList).any id = false) (i : Fin n) : g i.1 v[i] = false := by
  have hall := List.any_eq_false.1 h (g i.1 v[i])
  have hmem : g i.1 v[i] ∈ mapFrom g 0 v.toList := by
    refine List.mem_of_getElem? (i := i.1) ?_
    rw [mapFrom_getElem?, toList_getElem?_fin, Option.map_some, Nat.zero_add]
  simpa using hall hmem

theorem PortEntry.inRange_ofWords {ws : List Word} {e : PortEntry} (h : PortEntry.ofWords ws = some e) :
    e.inRange = true := by
  unfold PortEntry.ofWords at h
  dsimp only at h
  split at h
  · rename_i hrange
    cases h
    exact hrange
  · cases h

theorem LaneEntry.inRange_ofWords {ws : List Word} {e : LaneEntry} (h : LaneEntry.ofWords ws = some e) :
    e.inRange = true := by
  unfold LaneEntry.ofWords at h
  dsimp only at h
  split at h
  · rename_i hrange
    cases h
    exact hrange
  · cases h

theorem SlotEntry.inRange_ofWords {ws : List Word} {e : SlotEntry} (h : SlotEntry.ofWords ws = some e) :
    e.inRange = true := by
  unfold SlotEntry.ofWords at h
  dsimp only at h
  split at h
  · rename_i hrange
    cases h
    exact hrange
  · cases h

theorem bits_lt (w : Word) (hi lo : Nat) : bits w hi lo < 2 ^ (hi + 1 - lo) := Nat.mod_lt _ (Nat.two_pow_pos _)

theorem SourceEntry.inRange_ofWords {ws : List Word} {e : SourceEntry} (h : SourceEntry.ofWords ws = some e) :
    e.inRange = true := by
  unfold SourceEntry.ofWords at h
  dsimp only at h
  split at h
  · cases h
    exact decide_eq_true (Nat.le_of_lt_succ (bits_lt _ 7 0))
  · cases h

theorem PathEntry.inRange_ofWords {ws : List Word} {e : PathEntry} (h : PathEntry.ofWords ws = some e) :
    e.inRange = true := by
  unfold PathEntry.ofWords at h
  dsimp only at h
  split at h
  · split at h
    · rename_i hrange
      cases h
      exact hrange
    · cases h
  · cases h

/-- A property of every written image and of the old entry is one of the new entry. -/
theorem written_entry {α : Type} {p : α → Prop} {touched : Bool} {image : Option α} {old : α}
    (himage : ∀ e, image = some e → p e) (hold : p old) : p (if touched then image.getD old else old) := by
  split
  · cases image with
    | none => exact hold
    | some e => exact himage e rfl
  · exact hold

theorem portTables_portTable_get (f : MgmtFrame) (s : State) (p : Fin 8) : (portTables f s).portTable[p] =
    if f.touches 4 p.1 then (portImage f p.1 s.portTable[p]).getD s.portTable[p] else s.portTable[p] :=
  mapEntries_getElem _ s.portTable p.1 p.2

theorem portTables_laneTable_get (f : MgmtFrame) (s : State) (l : Fin 4) : (portTables f s).laneTable[l] =
    if f.touches 4 (l.1 + 8) then (laneImage f (l.1 + 8) s.laneTable[l]).getD s.laneTable[l] else s.laneTable[l] :=
  mapEntries_getElem _ s.laneTable l.1 l.2

theorem sourceResult_get (f : MgmtFrame) (s : State) (q : Fin 48) : (sourceResult f s)[q] =
    if f.touches 2 q.1 then (sourceImage f q.1 s.sourceTable[q]).getD s.sourceTable[q] else s.sourceTable[q] :=
  mapEntries_getElem _ s.sourceTable q.1 q.2

theorem slotResult_get (f : MgmtFrame) (s : State) (t : Fin 96) : (slotResult f s)[t] =
    if f.touches 6 t.1 then (slotImage f t.1 s.slotTable[t]).getD s.slotTable[t] else s.slotTable[t] :=
  mapEntries_getElem _ s.slotTable t.1 t.2

theorem pathResult_get (f : MgmtFrame) (t : Vector PathEntry 384) (i : Fin 384) : (pathResult f t)[i] =
    if f.touches 3 i.1 then (pathImage f i.1 t[i]).getD t[i] else t[i] :=
  mapEntries_getElem _ t i.1 i.2

theorem pathResult_get_of_not_touched {f : MgmtFrame} {t : Vector PathEntry 384} {i : Fin 384}
    (h : f.touches 3 i.1 = false) : (pathResult f t)[i] = t[i] := by
  rw [pathResult_get, h]; rfl

/-! ### The projected table (R5 to R9, R11) -/

theorem applyUpdates_append (t : Vector PathEntry 384) (a b : List (Fin 384 × PathEntry)) :
    applyUpdates t (a ++ b) = applyUpdates (applyUpdates t a) b := by
  induction a generalizing t with
  | nil => rfl
  | cons x a ih => exact ih _

theorem applyUpdates_get_of_absent {i : Fin 384} {us : List (Fin 384 × PathEntry)} (h : ∀ u ∈ us, u.1 ≠ i)
    (t : Vector PathEntry 384) : (applyUpdates t us)[i] = t[i] := by
  induction us generalizing t with
  | nil => rfl
  | cons u us ih =>
    calc (applyUpdates t (u :: us))[i]
        = (t.set u.1 u.2)[i] := ih (fun v hv => h v (List.mem_cons_of_mem u hv)) _
      _ = t[i] := vector_set_get_ne _ _ _ _ fun hi => h u (List.mem_cons_self ..) hi.symm

/-- The last update that names an entry gives its value. -/
theorem applyUpdates_get_of_last {i : Fin 384} {e : PathEntry} {a b : List (Fin 384 × PathEntry)}
    (h : ∀ u ∈ b, u.1 ≠ i) (t : Vector PathEntry 384) : (applyUpdates t (a ++ (i, e) :: b))[i] = e := by
  rw [applyUpdates_append]
  exact (applyUpdates_get_of_absent h _).trans (vector_set_get _ _ _)

/-- Where every update that names an entry has one image, that is its value. -/
theorem applyUpdates_get_of_unique {i : Fin 384} {e : PathEntry} {us : List (Fin 384 × PathEntry)} (hmem : (i, e) ∈ us)
    (hunique : ∀ x, (i, x) ∈ us → x = e) (t : Vector PathEntry 384) : (applyUpdates t us)[i] = e := by
  induction us generalizing t with
  | nil => cases hmem
  | cons u us ih =>
    by_cases hlater : ∃ x, (i, x) ∈ us
    · obtain ⟨x, hx⟩ := hlater
      obtain rfl := hunique x (List.mem_cons_of_mem u hx)
      exact ih hx (fun y hy => hunique y (List.mem_cons_of_mem u hy)) _
    · have habsent : ∀ v ∈ us, v.1 ≠ i := fun v hv hi => hlater ⟨v.2, hi ▸ hv⟩
      obtain rfl : (i, e) = u := (List.mem_cons.1 hmem).resolve_right fun h => hlater ⟨e, h⟩
      exact (applyUpdates_get_of_absent habsent _).trans (vector_set_get _ _ _)

/-- A property of every entry and of every update is one of the table with the updates applied. -/
theorem applyUpdates_forall {p : PathEntry → Prop} {us : List (Fin 384 × PathEntry)} (hus : ∀ u ∈ us, p u.2)
    {t : Vector PathEntry 384} (ht : ∀ i : Fin 384, p t[i]) (i : Fin 384) : p (applyUpdates t us)[i] := by
  induction us generalizing t with
  | nil => exact ht i
  | cons u us ih =>
    refine ih (fun v hv => hus v (List.mem_cons_of_mem u hv)) fun j => ?_
    by_cases hj : j = u.1
    · subst hj
      rw [vector_set_get]
      exact hus u (List.mem_cons_self ..)
    · rw [vector_set_get_ne _ _ _ _ hj]
      exact ht j

/-- R9: the updates of a write are the images of the entries that it touches. -/
theorem mem_pathUpdates {f : MgmtFrame} {s : State} {i : Fin 384} {e : PathEntry} :
    (i, e) ∈ pathUpdates f s ↔ f.touches 3 i.1 = true ∧ pathImage f i.1 (projected s)[i] = some e := by
  have hfin : toFin 384 i.1 = some i := dif_pos i.2
  unfold pathUpdates
  rw [List.mem_filterMap]
  constructor
  · rintro ⟨n, hn, h⟩
    split at h
    · rename_i j hj
      obtain ⟨x, hx, hpair⟩ := Option.map_eq_some_iff.1 h
      cases hpair
      have hnum : n = i.1 := by
        unfold toFin at hj
        split at hj
        · cases hj; rfl
        · cases hj
      subst hnum
      exact ⟨mem_touched.1 hn, hx⟩
    · cases h
  · rintro ⟨htouch, himage⟩
    refine ⟨i.1, mem_touched.2 htouch, ?_⟩
    rw [hfin]
    dsimp only
    rw [himage]
    rfl

/-- R6, R9: the updates of a write, applied on top of the projected table, give the table that would result. -/
theorem applyUpdates_pathUpdates (f : MgmtFrame) (s : State) :
    applyUpdates (projected s) (pathUpdates f s) = pathResult f (projected s) := by
  refine vector_ext fun i => ?_
  by_cases hmem : ∃ e, (i, e) ∈ pathUpdates f s
  · obtain ⟨e, he⟩ := hmem
    obtain ⟨htouch, himage⟩ := mem_pathUpdates.1 he
    rw [pathResult_get, if_pos htouch, himage]
    refine applyUpdates_get_of_unique he (fun x hx => ?_) _
    have hsame := (mem_pathUpdates.1 hx).2
    rw [himage] at hsame
    exact (Option.some.inj hsame).symm
  · have habsent : ∀ u ∈ pathUpdates f s, u.1 ≠ i := fun u hu hi => hmem ⟨u.2, hi ▸ hu⟩
    rw [applyUpdates_get_of_absent habsent, pathResult_get]
    split
    · rename_i htouch
      cases himage : pathImage f i.1 (projected s)[i] with
      | none => rfl
      | some e => exact absurd ⟨e, mem_pathUpdates.2 ⟨htouch, himage⟩⟩ hmem
    · rfl

end Machine
end Sys2Proof

namespace Sys2Proof
namespace Machine

/-! ### The tables stay in their ranges (R2, R14, R31, R44, R66, R94, R116) -/

namespace TablesInRange

theorem of_eq {s t : State} (hs : TablesInRange s) (hports : t.portTable = s.portTable)
    (hlanes : t.laneTable = s.laneTable) (hsources : t.sourceTable = s.sourceTable) (hslots : t.slotTable = s.slotTable)
    (hpaths : t.pathTable = s.pathTable) (hpending : t.pathPending = s.pathPending) : TablesInRange t :=
  ⟨by rw [hports]; exact hs.ports, by rw [hlanes]; exact hs.lanes, by rw [hsources]; exact hs.sources,
    by rw [hslots]; exact hs.slots, by rw [hpaths]; exact hs.paths, by rw [hpending]; exact hs.pending⟩

theorem projected {s : State} (hs : TablesInRange s) (i : Fin 384) : (projected s)[i].inRange = true :=
  applyUpdates_forall (p := fun e => e.inRange = true) hs.pending hs.paths i

theorem applyPending {s : State} (hs : TablesInRange s) : TablesInRange (applyPending s) :=
  ⟨hs.ports, hs.lanes, hs.sources, hs.slots, hs.projected, fun _ h => absurd h List.not_mem_nil⟩

theorem portTables (f : MgmtFrame) {s : State} (hs : TablesInRange s) : TablesInRange (portTables f s) := by
  refine ⟨fun p => ?_, fun l => ?_, hs.sources, hs.slots, hs.paths, hs.pending⟩
  · rw [portTables_portTable_get]
    exact written_entry (p := fun e : PortEntry => e.inRange = true) (fun _ => PortEntry.inRange_ofWords) (hs.ports p)
  · rw [portTables_laneTable_get]
    exact written_entry (p := fun e : LaneEntry => e.inRange = true) (fun _ => LaneEntry.inRange_ofWords) (hs.lanes l)

theorem applySource (f : MgmtFrame) {s : State} (hs : TablesInRange s) : TablesInRange (applySource f s) := by
  refine ⟨hs.ports, hs.lanes, fun q => ?_, hs.slots, hs.paths, hs.pending⟩
  change (sourceResult f s)[q].inRange = true
  rw [sourceResult_get]
  exact written_entry (p := fun e : SourceEntry => e.inRange = true) (fun _ => SourceEntry.inRange_ofWords)
    (hs.sources q)

theorem applySlot (f : MgmtFrame) {s : State} (hs : TablesInRange s) : TablesInRange (applySlot f s) := by
  refine ⟨hs.ports, hs.lanes, hs.sources, fun t => ?_, hs.paths, hs.pending⟩
  change (slotResult f s)[t].inRange = true
  rw [slotResult_get]
  exact written_entry (p := fun e : SlotEntry => e.inRange = true) (fun _ => SlotEntry.inRange_ofWords) (hs.slots t)

theorem pathResult (f : MgmtFrame) {t : Vector PathEntry 384} (ht : ∀ i : Fin 384, t[i].inRange = true) (i : Fin 384) :
    (pathResult f t)[i].inRange = true := by
  rw [pathResult_get]
  exact written_entry (p := fun e : PathEntry => e.inRange = true) (fun _ => PathEntry.inRange_ofWords) (ht i)

theorem applyPath (f : MgmtFrame) {s : State} (hs : TablesInRange s) : TablesInRange (applyPath f s) := by
  unfold Machine.applyPath
  split
  · refine ⟨hs.ports, hs.lanes, hs.sources, hs.slots, hs.paths, fun u hu => ?_⟩
    rcases List.mem_append.1 hu with hold | hnew
    · exact hs.pending u hold
    · exact PathEntry.inRange_ofWords (mem_pathUpdates.1 hnew).2
  · exact ⟨hs.ports, hs.lanes, hs.sources, hs.slots, pathResult f hs.paths, hs.pending⟩

theorem reset : TablesInRange State.reset where
  ports p := by rw [reset_portTable]; rfl
  lanes l := by rw [reset_laneTable]; rfl
  sources q := by rw [reset_sourceTable]; rfl
  slots t := by rw [reset_slotTable]; rfl
  paths i := by rw [reset_pathTable]; rfl
  pending _ h := absurd h List.not_mem_nil

end TablesInRange

/-! ### The source keys stay unique (R45) -/

/-- Which of two sources comes first does not matter to their having the same key. -/
theorem sameKey_comm (a b : SourceEntry) : sameKey a b = sameKey b a := by
  unfold sameKey
  cases a.kind <;> cases b.kind <;> simp only [Bool.beq_comm (a := a.port), Bool.beq_comm (a := a.node),
    Bool.beq_comm (a := a.channel), Bool.beq_comm (a := a.slot)]

/-- R45: entry a does not clash: no other entry has its key. -/
theorem sameKey_of_keyClash_eq_false {t : Vector SourceEntry 48} {a b : Fin 48} (h : keyClash t a.1 = false)
    (hne : b ≠ a) : sameKey t[a] t[b] = false := by
  unfold keyClash at h
  rw [toList_getElem?_fin] at h
  have hb := mapFrom_any_eq_false h b
  have hnum : b.1 ≠ a.1 := fun he => hne (Fin.ext he)
  simpa [hnum] using hb

namespace KeysUnique

theorem of_eq {s t : State} (hs : KeysUnique s) (h : t.sourceTable = s.sourceTable) : KeysUnique t := by
  unfold KeysUnique
  rw [h]
  exact hs

/-- R45: a write none of whose touched entries clashes. -/
theorem applySource {f : MgmtFrame} {s : State} (hs : KeysUnique s)
    (hclash : (f.touched 2).find? (keyClash (sourceResult f s)) = none) : KeysUnique (applySource f s) := by
  intro a b hne
  change sameKey (sourceResult f s)[a] (sourceResult f s)[b] = false
  by_cases ha : f.touches 2 a.1 = true
  · exact sameKey_of_keyClash_eq_false (find?_touched_eq_none hclash ha) hne.symm
  · by_cases hb : f.touches 2 b.1 = true
    · rw [sameKey_comm]
      exact sameKey_of_keyClash_eq_false (find?_touched_eq_none hclash hb) hne
    · rw [sourceResult_get, sourceResult_get, if_neg ha, if_neg hb]
      exact hs a b hne

theorem reset : KeysUnique State.reset := by
  intro a b _
  rw [reset_sourceTable, reset_sourceTable]
  rfl

end KeysUnique

theorem applyPath_sourceTable (f : MgmtFrame) (s : State) : (applyPath f s).sourceTable = s.sourceTable := by
  unfold applyPath
  split <;> rfl

/-- R2, R14, R31, R44, R45, R66, R94, R116: every table entry in its ranges, and the source keys unique. -/
def TablesLegal (s : State) : Prop := TablesInRange s ∧ KeysUnique s

namespace TablesLegal

theorem of_eq {s t : State} (hs : TablesLegal s) (hports : t.portTable = s.portTable)
    (hlanes : t.laneTable = s.laneTable) (hsources : t.sourceTable = s.sourceTable) (hslots : t.slotTable = s.slotTable)
    (hpaths : t.pathTable = s.pathTable) (hpending : t.pathPending = s.pathPending) : TablesLegal t :=
  ⟨hs.1.of_eq hports hlanes hsources hslots hpaths hpending, hs.2.of_eq hsources⟩

theorem applyPending (s : State) (hs : TablesLegal s) : TablesLegal (applyPending s) :=
  ⟨hs.1.applyPending, hs.2.of_eq rfl⟩

theorem portsClosed : PortsClosed TablesLegal where
  port _ _ _ hs := hs.of_eq rfl rfl rfl rfl rfl rfl
  count i s hs := by rw [incr_only i s]; exact hs.of_eq rfl rfl rfl rfl rfl rfl
  raise k i s _ hs := by rw [raise_only k i s]; exact hs.of_eq rfl rfl rfl rfl rfl rfl
  samples _ _ _ _ hs := hs.of_eq rfl rfl rfl rfl rfl rfl
  join f s hs := by rw [mgmtJoin_only f s]; exact hs.of_eq rfl rfl rfl rfl rfl rfl

theorem passClosed : PassClosed TablesLegal where
  pass _ _ hs := hs.of_eq rfl rfl rfl rfl rfl rfl
  overrun s hs := by rw [raise_only _ _ s]; exact hs.of_eq rfl rfl rfl rfl rfl rfl
  count i s hs := by rw [incr_only i s]; exact hs.of_eq rfl rfl rfl rfl rfl rfl
  parity ws s hs := by rw [checkParity_only .h ws s]; exact hs.of_eq rfl rfl rfl rfl rfl rfl
  handOver e s hs := by rw [handOver_only e s]; exact hs.of_eq rfl rfl rfl rfl rfl rfl
  request b op s hs := by rw [request_only b op s]; exact hs.of_eq rfl rfl rfl rfl rfl rfl
  apply := applyPending
  clear _ hs := hs.of_eq rfl rfl rfl rfl rfl rfl
  push _ hs := hs.of_eq rfl rfl rfl rfl rfl rfl
  expire _ _ hs := hs.of_eq rfl rfl rfl rfl rfl rfl

theorem setting {c : Instr} (hfamily : family c = .setting) (s : State) (hs : TablesLegal s) :
    TablesLegal (effect c s) := by
  have hphase : ∀ f ph, TablesLegal (setPhase f ph s) := fun f ph => hs.of_eq rfl rfl rfl rfl rfl rfl
  cases c with
  | mgmtFrameTake =>
    change TablesLegal (mgmtFrameTake s)
    unfold mgmtFrameTake
    split
    · dsimp only
      split <;> exact hs.of_eq rfl rfl rfl rfl rfl rfl
    · exact hs
  | mwriteSource =>
    refine onTaken_keeps hs fun f _ => ?_
    rcases writeSource_cases f s with ⟨r, -, h⟩ | ⟨-, -, hclash, h⟩ <;> rw [h]
    · exact hphase f _
    · have happlied : TablesLegal (applySource f s) := ⟨hs.1.applySource f, hs.2.applySource hclash⟩
      exact happlied.of_eq rfl rfl rfl rfl rfl rfl
  | mwriteSlot =>
    refine onTaken_keeps hs fun f _ => ?_
    rcases writeSlot_cases f s with ⟨r, -, h⟩ | ⟨-, -, -, h⟩ <;> rw [h]
    · exact hphase f _
    · have happlied : TablesLegal (applySlot f s) := ⟨hs.1.applySlot f, hs.2.of_eq rfl⟩
      exact happlied.of_eq rfl rfl rfl rfl rfl rfl
  | mwritePath =>
    refine onTaken_keeps hs fun f _ => ?_
    rcases writePath_cases f s with ⟨r, -, h⟩ | ⟨-, -, -, -, h⟩ <;> rw [h]
    · exact hphase f _
    · have hkeys : KeysUnique (applyPath f s) := hs.2.of_eq (applyPath_sourceTable f s)
      have happlied : TablesLegal (applyPath f s) := ⟨hs.1.applyPath f, hkeys⟩
      exact happlied.of_eq rfl rfl rfl rfl rfl rfl
  | run =>
    refine onTaken_keeps hs fun f _ => ?_
    rcases actRun_cases f s with ⟨r, -, h⟩ | ⟨p, -, h⟩ <;> rw [h]
    · exact hphase f _
    · split <;> exact hs.of_eq rfl rfl rfl rfl rfl rfl
  | stop =>
    refine onTaken_keeps hs fun f _ => ?_
    unfold actStop
    split
    · exact (applyPending s hs).of_eq rfl rfl rfl rfl rfl rfl
    · exact hphase f _
  | gainRestart =>
    exact onTaken_keeps hs fun f _ => withArg_keeps (fun _ => hphase f _) fun _ => hs.of_eq rfl rfl rfl rfl rfl rfl
  | _ => cases hfamily

theorem restart (f : MgmtFrame) (s : State) (hs : TablesLegal s) : TablesLegal (actRestart f s) := by
  refine actRestart_keeps (Q := TablesLegal) ?_ passClosed.restartPass fun u hu => ?_
  · unfold restarted; exact (applyPending s hs).of_eq rfl rfl rfl rfl rfl rfl
  · rw [restartDump_only u]; exact hu.of_eq rfl rfl rfl rfl rfl rfl

theorem effect (c : Instr) (s : State) (hs : TablesLegal s) : TablesLegal (effect c s) := by
  cases h : family c with
  | reset => rw [effect_of_reset h]; exact hs
  | port => rw [effect_onlyPorts h s]; exact hs.of_eq rfl rfl rfl rfl rfl rfl
  | lane => rw [effect_onlyTraffic h s]; exact hs.of_eq rfl rfl rfl rfl rfl rfl
  | pass => exact passClosed.effect h s hs
  | storeUse => rw [effect_onlyStoreUse h s]; exact hs.of_eq rfl rfl rfl rfl rfl rfl
  | setting => exact setting h s hs
  | reading => rw [effect_onlyReads h s]; exact hs.of_eq rfl rfl rfl rfl rfl rfl
  | tapAccess => rw [effect_onlyTapAccess h s]; exact hs.of_eq rfl rfl rfl rfl rfl rfl
  | portWrite =>
    exact portsClosed.portWrite h s hs (fun _ _ _ hu => hu.of_eq rfl rfl rfl rfl rfl rfl) fun f u hu =>
      ⟨hu.1.portTables f, hu.2.of_eq rfl⟩
  | channel => rw [effect_onlyChannelAction h s]; exact hs.of_eq rfl rfl rfl rfl rfl rfl
  | restart => exact effect_restart_keeps h hs fun f _ => restart f s hs
  | reply => rw [effect_onlyReturn h s]; exact hs.of_eq rfl rfl rfl rfl rfl rfl

theorem reset : TablesLegal State.reset := ⟨TablesInRange.reset, KeysUnique.reset⟩

theorem step {s t : State} (h : step s = .next t) (hs : TablesLegal s) : TablesLegal t :=
  step_keeps_of_effect (fun _ _ hs => hs.of_eq rfl rfl rfl rfl rfl rfl) (fun _ => reset.of_eq rfl rfl rfl rfl rfl rfl)
    (fun _ hs => hs.of_eq rfl rfl rfl rfl rfl rfl)
    (fun s hs => by rw [returnChoose_only s]; exact hs.of_eq rfl rfl rfl rfl rfl rfl) effect h hs

end TablesLegal

/-! ### The plan constraints of the current and of the projected table (R5) -/

theorem sharesBlock_comm (a b : PathEntry) : sharesBlock a b = sharesBlock b a := by
  unfold sharesBlock
  rw [Bool.and_comm (a.state == .enabled), Bool.beq_comm (a := a.block), Bool.or_comm]

theorem sharesBlock_of_not_enabled {a : PathEntry} (h : a.state ≠ .enabled) (b : PathEntry) :
    sharesBlock a b = false := by
  simp [sharesBlock, h]

/-- R6: entry i of a table does not fail the plan check. -/
theorem planFails_eq_false {t : Vector PathEntry 384} {i : Fin 384} (h : planFails t i.1 = false)
    (henabled : t[i].state = .enabled) :
    enabledPaths t t[i].slot ≤ 8 ∧ ∀ j : Fin 384, j ≠ i → sharesBlock t[i] t[j] = false := by
  unfold planFails at h
  rw [toList_getElem?_fin] at h
  have hstate : (t[i].state == .enabled) = true := by rw [henabled]; rfl
  dsimp only at h
  rw [hstate, Bool.true_and, Bool.or_eq_false_iff] at h
  refine ⟨Nat.le_of_not_lt (of_decide_eq_false h.1), fun j hj => ?_⟩
  have hnum : j.1 ≠ i.1 := fun he => hj (Fin.ext he)
  simpa [hnum] using mapFrom_any_eq_false h.2 j

/-- A change that makes no entry counted that was not counts no more. -/
theorem countP_mapFrom_le {α : Type} {g : Nat → α → α} {p : α → Bool} {xs : List α} {i : Nat}
    (h : ∀ j x, xs[j]? = some x → p (g (i + j) x) = true → p x = true) :
    (mapFrom g i xs).countP p ≤ xs.countP p := by
  induction xs generalizing i with
  | nil => exact Nat.le_refl _
  | cons x xs ih =>
    have hrest : (mapFrom g (i + 1) xs).countP p ≤ xs.countP p := by
      refine ih fun j y hy hp => h (j + 1) y (by simpa using hy) ?_
      rwa [Nat.add_assoc, Nat.add_comm 1 j] at hp
    have hhead : p (g i x) = true → p x = true := h 0 x rfl
    by_cases hp : p (g i x) = true
    · rw [mapFrom, List.countP_cons_of_pos hp, List.countP_cons_of_pos (hhead hp)]
      exact Nat.succ_le_succ hrest
    · rw [mapFrom, List.countP_cons_of_neg hp]
      exact hrest.trans ((List.sublist_cons_self x xs).countP_le)

/-- R5, R6: a write whose touched entries pass the plan check keeps the plan constraints. -/
theorem PlanConstraints.pathResult {f : MgmtFrame} {t : Vector PathEntry 384} (ht : PlanConstraints t)
    (hplan : (f.touched 3).find? (planFails (pathResult f t)) = none) : PlanConstraints (pathResult f t) := by
  have htouched : ∀ i : Fin 384, f.touches 3 i.1 = true → planFails (Machine.pathResult f t) i.1 = false :=
    fun i hi => find?_touched_eq_none hplan hi
  refine ⟨fun slot => ?_, fun i j hne => ?_⟩
  · by_cases hnew : ∃ i : Fin 384, f.touches 3 i.1 = true ∧ (Machine.pathResult f t)[i].state = .enabled ∧
        (Machine.pathResult f t)[i].slot = slot
    · obtain ⟨i, hi, henabled, rfl⟩ := hnew
      exact (planFails_eq_false (htouched i hi) henabled).1
    · refine Nat.le_trans (countP_mapFrom_le fun j x hx hp => ?_) (ht.slots slot)
      have hj : j < 384 := by simpa using (List.getElem?_eq_some_iff.1 hx).1
      have hx' : x = t[(⟨j, hj⟩ : Fin 384)] := by
        have hentry := toList_getElem?_fin t ⟨j, hj⟩
        rw [hx] at hentry
        exact Option.some.inj hentry
      subst hx'
      have hget := pathResult_get f t ⟨j, hj⟩
      rw [Nat.zero_add, ← hget] at hp
      by_cases htouch : f.touches 3 j = true
      · exact absurd ⟨⟨j, hj⟩, htouch, by simpa using hp⟩ hnew
      · rwa [pathResult_get_of_not_touched (by simpa using htouch)] at hp
  · by_cases hi : f.touches 3 i.1 = true
    · by_cases henabled : (Machine.pathResult f t)[i].state = .enabled
      · exact (planFails_eq_false (htouched i hi) henabled).2 j hne.symm
      · exact sharesBlock_of_not_enabled henabled _
    · by_cases hj : f.touches 3 j.1 = true
      · rw [sharesBlock_comm]
        by_cases henabled : (Machine.pathResult f t)[j].state = .enabled
        · exact (planFails_eq_false (htouched j hj) henabled).2 i hne
        · exact sharesBlock_of_not_enabled henabled _
      · rw [pathResult_get_of_not_touched (by simpa using hi), pathResult_get_of_not_touched (by simpa using hj)]
        exact ht.blocks i j hne

namespace PlanHolds

theorem of_eq {s t : State} (hs : PlanHolds s) (hpaths : t.pathTable = s.pathTable)
    (hpending : t.pathPending = s.pathPending) (hrunning : t.running = s.running) : PlanHolds t := by
  refine ⟨by rw [hpaths]; exact hs.current, ?_, by rw [hrunning, hpending]; exact hs.stopped⟩
  unfold Machine.projected
  rw [hpaths, hpending]
  exact hs.projected

/-- R11, R12: with its updates applied the projected table is the current one, whether RUNNING or STOPPED. -/
theorem applied {s t : State} (hs : PlanHolds s) (hpaths : t.pathTable = Machine.projected s)
    (hpending : t.pathPending = []) : PlanHolds t := by
  refine ⟨by rw [hpaths]; exact hs.projected, ?_, fun _ => hpending⟩
  unfold Machine.projected
  rw [hpaths, hpending]
  exact hs.projected

theorem passClosed : PassClosed PlanHolds where
  pass _ _ hs := hs.of_eq rfl rfl rfl
  overrun s hs := by rw [raise_only _ _ s]; exact hs.of_eq rfl rfl rfl
  count i s hs := by rw [incr_only i s]; exact hs.of_eq rfl rfl rfl
  parity ws s hs := by rw [checkParity_only .h ws s]; exact hs.of_eq rfl rfl rfl
  handOver e s hs := by rw [handOver_only e s]; exact hs.of_eq rfl rfl rfl
  request b op s hs := by rw [request_only b op s]; exact hs.of_eq rfl rfl rfl
  apply _ hs := hs.applied rfl rfl
  clear _ hs := hs.of_eq rfl rfl rfl
  push _ hs := hs.of_eq rfl rfl rfl
  expire _ _ hs := hs.of_eq rfl rfl rfl

/-- R8, R9: applied at once while STOPPED, on top of the projected table while RUNNING. -/
theorem applyPath {f : MgmtFrame} {s : State} (hs : PlanHolds s)
    (hplan : (f.touched 3).find? (planFails (pathResult f (Machine.projected s))) = none) :
    PlanHolds (applyPath f s) := by
  have hresult := hs.projected.pathResult hplan
  unfold Machine.applyPath
  split
  · rename_i hrun
    refine ⟨hs.current, ?_, fun hstopped => ?_⟩
    · change PlanConstraints (applyUpdates s.pathTable (s.pathPending ++ pathUpdates f s))
      rw [applyUpdates_append]
      change PlanConstraints (applyUpdates (Machine.projected s) (pathUpdates f s))
      rw [applyUpdates_pathUpdates]
      exact hresult
    · have hfalse : s.running = false := hstopped
      rw [hrun] at hfalse
      cases hfalse
  · rename_i hstopped
    have hempty : s.pathPending = [] := hs.stopped (by simpa using hstopped)
    have hcurrent : Machine.projected s = s.pathTable := by unfold Machine.projected; rw [hempty]; rfl
    rw [hcurrent] at hresult
    refine ⟨hresult, ?_, fun _ => hempty⟩
    change PlanConstraints (applyUpdates (pathResult f s.pathTable) s.pathPending)
    rw [hempty]
    exact hresult

theorem setting {c : Instr} (hfamily : family c = .setting) (s : State) (hs : PlanHolds s) :
    PlanHolds (effect c s) := by
  have hphase : ∀ f ph, PlanHolds (setPhase f ph s) := fun f ph => hs.of_eq rfl rfl rfl
  cases c with
  | mgmtFrameTake =>
    change PlanHolds (mgmtFrameTake s)
    unfold mgmtFrameTake
    split
    · dsimp only
      split <;> exact hs.of_eq rfl rfl rfl
    · exact hs
  | mwriteSource =>
    refine onTaken_keeps hs fun f _ => ?_
    rcases writeSource_cases f s with ⟨r, -, h⟩ | ⟨-, -, -, h⟩ <;> rw [h] <;> exact hs.of_eq rfl rfl rfl
  | mwriteSlot =>
    refine onTaken_keeps hs fun f _ => ?_
    rcases writeSlot_cases f s with ⟨r, -, h⟩ | ⟨-, -, -, h⟩ <;> rw [h] <;> exact hs.of_eq rfl rfl rfl
  | mwritePath =>
    refine onTaken_keeps hs fun f _ => ?_
    rcases writePath_cases f s with ⟨r, -, h⟩ | ⟨-, -, hplan, -, h⟩ <;> rw [h]
    · exact hphase f _
    · exact (hs.applyPath hplan).of_eq rfl rfl rfl
  | run =>
    refine onTaken_keeps hs fun f _ => ?_
    rcases actRun_cases f s with ⟨r, -, h⟩ | ⟨p, -, h⟩ <;> rw [h]
    · exact hphase f _
    · split
      · exact hs.of_eq rfl rfl rfl
      · exact ⟨hs.current, hs.projected, fun h => by cases h⟩
  | stop =>
    refine onTaken_keeps hs fun f _ => ?_
    unfold actStop
    split
    · exact hs.applied rfl rfl
    · exact hphase f _
  | gainRestart => exact onTaken_keeps hs fun f _ => withArg_keeps (fun _ => hphase f _) fun _ => hs.of_eq rfl rfl rfl
  | _ => cases hfamily

theorem restart (f : MgmtFrame) (s : State) (hs : PlanHolds s) : PlanHolds (actRestart f s) := by
  refine actRestart_keeps (Q := PlanHolds) ?_ passClosed.restartPass fun u hu => ?_
  · unfold restarted; exact hs.applied rfl rfl
  · rw [restartDump_only u]; exact hu.of_eq rfl rfl rfl

theorem effect (c : Instr) (s : State) (hs : PlanHolds s) : PlanHolds (effect c s) := by
  cases h : family c with
  | reset => rw [effect_of_reset h]; exact hs
  | port => rw [effect_onlyPorts h s]; exact hs.of_eq rfl rfl rfl
  | lane => rw [effect_onlyTraffic h s]; exact hs.of_eq rfl rfl rfl
  | pass => exact passClosed.effect h s hs
  | storeUse => rw [effect_onlyStoreUse h s]; exact hs.of_eq rfl rfl rfl
  | setting => exact setting h s hs
  | reading => rw [effect_onlyReads h s]; exact hs.of_eq rfl rfl rfl
  | tapAccess => rw [effect_onlyTapAccess h s]; exact hs.of_eq rfl rfl rfl
  | portWrite => rw [effect_onlyPortWrite h s]; exact hs.of_eq rfl rfl rfl
  | channel => rw [effect_onlyChannelAction h s]; exact hs.of_eq rfl rfl rfl
  | restart => exact effect_restart_keeps h hs fun f _ => restart f s hs
  | reply => rw [effect_onlyReturn h s]; exact hs.of_eq rfl rfl rfl

theorem reset : PlanHolds State.reset := by
  have hplan : PlanConstraints State.reset.pathTable := by
    refine ⟨fun slot => ?_, fun i j _ => ?_⟩
    · have hlist : State.reset.pathTable.toList = List.replicate 384 PathEntry.reset := Vector.toList_replicate
      have hnone : enabledPaths State.reset.pathTable slot = 0 := by
        refine List.countP_eq_zero.2 fun e he => ?_
        have hreset : e = PathEntry.reset := List.eq_of_mem_replicate (hlist ▸ he)
        rw [hreset]
        exact Bool.false_ne_true
      rw [hnone]
      exact Nat.zero_le _
    · rw [reset_pathTable, reset_pathTable]; rfl
  exact ⟨hplan, hplan, fun _ => rfl⟩

theorem step {s t : State} (h : step s = .next t) (hs : PlanHolds s) : PlanHolds t :=
  step_keeps_of_effect (fun _ _ hs => hs.of_eq rfl rfl rfl) (fun _ => reset.of_eq rfl rfl rfl)
    (fun _ hs => hs.of_eq rfl rfl rfl) (fun s hs => by rw [returnChoose_only s]; exact hs.of_eq rfl rfl rfl) effect h hs

end PlanHolds

/-! ### The gains (R94 to R97, R110, R111) -/

/-- R94, R95: a gain state that a Slot Table entry allows. -/
def GainWithin (e : SlotEntry) (g : Gain) : Prop := e.muFloor ≤ g.mu ∧ g.mu ≤ e.muCeiling ∧ g.quietRun ≤ 15

/-- R94: floor ≤ start ≤ ceiling. -/
def MuOrdered (e : SlotEntry) : Prop :=
  1 ≤ e.muFloor ∧ e.muFloor ≤ e.muStart ∧ e.muStart ≤ e.muCeiling ∧ e.muCeiling ≤ 255

theorem MuOrdered.of_inRange {e : SlotEntry} (h : e.inRange = true) : MuOrdered e := by
  simp only [SlotEntry.inRange, Bool.and_eq_true, decide_eq_true_eq] at h
  obtain ⟨⟨⟨⟨⟨⟨⟨⟨-, hfloor⟩, hstart⟩, hceiling⟩, hmax⟩, -⟩, -⟩, -⟩, -⟩ := h
  exact ⟨hfloor, hstart, hceiling, hmax⟩

/-- R97, R111: the start value is within the range. -/
theorem MuOrdered.start {e : SlotEntry} (h : MuOrdered e) (last : Option Word) : GainWithin e ⟨e.muStart, 0, last⟩ := by
  obtain ⟨-, hstart, hceiling, -⟩ := h
  exact ⟨hstart, hceiling, Nat.zero_le _⟩

/-- R110: a step of the gain schedule stays within the range. -/
theorem GainWithin.step {e : SlotEntry} {g : Gain} (he : MuOrdered e) (h : GainWithin e g) (residual : Word) :
    GainWithin e (gainStep e residual g) := by
  obtain ⟨hfloor, hceiling, hquiet⟩ := h
  obtain ⟨-, hstart, hmax, -⟩ := he
  unfold gainStep
  split
  · exact ⟨by dsimp only; omega, Nat.min_le_left _ _, Nat.zero_le _⟩
  · split
    · split
      · exact ⟨hfloor, hceiling, by dsimp only; omega⟩
      · exact ⟨Nat.le_max_left _ _, by dsimp only; omega, Nat.zero_le _⟩
    · exact ⟨hfloor, hceiling, Nat.zero_le _⟩

/-- R96: a saturated mu is within the range. -/
theorem GainWithin.clamp {e : SlotEntry} {g : Gain} (he : MuOrdered e) (hquiet : g.quietRun ≤ 15) :
    GainWithin e { g with mu := clampMu e g.mu } := by
  obtain ⟨-, hstart, hmax, -⟩ := he
  exact ⟨Nat.le_max_left _ _, by simp only [clampMu]; omega, hquiet⟩

namespace GainLegal

theorem ordered {s : State} (hs : GainLegal s) (t : Fin 96) : MuOrdered s.slotTable[t] := hs.order t

theorem within {s : State} (hs : GainLegal s) (t : Fin 96) : GainWithin s.slotTable[t] s.gain[t] :=
  ⟨(hs.mu t).1, (hs.mu t).2, hs.quiet t⟩

theorem of_entries {s : State} (horder : ∀ t : Fin 96, MuOrdered s.slotTable[t])
    (hgain : ∀ t : Fin 96, GainWithin s.slotTable[t] s.gain[t]) : GainLegal s :=
  ⟨horder, fun t => ⟨(hgain t).1, (hgain t).2.1⟩, fun t => (hgain t).2.2⟩

theorem of_eq {s t : State} (hs : GainLegal s) (hslots : t.slotTable = s.slotTable) (hgain : t.gain = s.gain) :
    GainLegal t :=
  ⟨by rw [hslots]; exact hs.order, by rw [hslots, hgain]; exact hs.mu, by rw [hgain]; exact hs.quiet⟩

/-- One slot's gain state set to one that its entry allows. -/
theorem setGain {s : State} (hs : GainLegal s) {t : Fin 96} {g : Gain} (hg : GainWithin s.slotTable[t] g) :
    GainLegal { s with gain := s.gain.set t g } := by
  refine of_entries hs.ordered fun u => ?_
  change GainWithin s.slotTable[u] (s.gain.set t g)[u]
  by_cases hu : u = t
  · subst hu
    rw [vector_set_get]
    exact hg
  · rw [vector_set_get_ne _ _ _ _ hu]
    exact hs.within u

theorem storeUseClosed : StoreUseClosed GainLegal where
  count i s hs := by rw [incr_only i s]; exact hs.of_eq rfl rfl
  parity b ws s hs := by rw [checkParity_only b ws s]; exact hs.of_eq rfl rfl
  request b op s hs := by rw [request_only b op s]; exact hs.of_eq rfl rfl
  next b s _ hs := by rw [takeNext_only b s]; exact hs.of_eq rfl rfl
  report _ _ _ _ hs := hs.of_eq rfl rfl
  engine _ _ hs := hs.of_eq rfl rfl
  adapted _ t _ hs := hs.setGain (hs.within t)
  gain v _ hs := hs.setGain ((hs.within v.slot).step (hs.ordered v.slot) v.residual)
  comp _ _ _ hs := hs.of_eq rfl rfl
  dump block ws s hs := by rw [deliverDump_only block ws s]; exact hs.of_eq rfl rfl
  phase _ _ _ _ _ hs := hs.of_eq rfl rfl

theorem applySlot_gain_get (f : MgmtFrame) (s : State) (t : Fin 96) : (applySlot f s).gain[t] =
    if s.slotTable[t].muFloor ≠ (slotResult f s)[t].muFloor ∨ s.slotTable[t].muCeiling ≠ (slotResult f s)[t].muCeiling
    then { s.gain[t] with mu := clampMu (slotResult f s)[t] s.gain[t].mu } else s.gain[t] := by
  refine (mapEntries_getElem _ s.gain t.1 t.2).trans ?_
  rw [toList_getElem?_fin, toList_getElem?_fin]
  rfl

/-- R96: where floor or ceiling has changed mu is saturated, else it is within the old ones. -/
theorem applySlot (f : MgmtFrame) {s : State} (hs : GainLegal s) : GainLegal (applySlot f s) := by
  have horder : ∀ t : Fin 96, MuOrdered (slotResult f s)[t] := fun t => by
    rw [slotResult_get]
    exact written_entry (p := MuOrdered) (fun _ h => MuOrdered.of_inRange (SlotEntry.inRange_ofWords h)) (hs.ordered t)
  refine of_entries horder fun t => ?_
  change GainWithin (slotResult f s)[t] (Machine.applySlot f s).gain[t]
  rw [applySlot_gain_get]
  split
  · exact GainWithin.clamp (horder t) (hs.quiet t)
  · rename_i hsame
    have hboth : s.slotTable[t].muFloor = (slotResult f s)[t].muFloor ∧
        s.slotTable[t].muCeiling = (slotResult f s)[t].muCeiling := by
      rw [not_or, not_not, not_not] at hsame
      exact hsame
    exact ⟨hboth.1 ▸ (hs.mu t).1, hboth.2 ▸ (hs.mu t).2, hs.quiet t⟩

theorem setting {c : Instr} (hfamily : family c = .setting) (s : State) (hs : GainLegal s) :
    GainLegal (effect c s) := by
  have hphase : ∀ f ph, GainLegal (setPhase f ph s) := fun f ph => hs.of_eq rfl rfl
  cases c with
  | mgmtFrameTake =>
    change GainLegal (mgmtFrameTake s)
    unfold mgmtFrameTake
    split
    · dsimp only
      split <;> exact hs.of_eq rfl rfl
    · exact hs
  | mwriteSource =>
    refine onTaken_keeps hs fun f _ => ?_
    rcases writeSource_cases f s with ⟨r, -, h⟩ | ⟨-, -, -, h⟩ <;> rw [h] <;> exact hs.of_eq rfl rfl
  | mwriteSlot =>
    refine onTaken_keeps hs fun f _ => ?_
    rcases writeSlot_cases f s with ⟨r, -, h⟩ | ⟨-, -, -, h⟩ <;> rw [h]
    · exact hphase f _
    · exact (hs.applySlot f).of_eq rfl rfl
  | mwritePath =>
    refine onTaken_keeps hs fun f _ => ?_
    rcases writePath_cases f s with ⟨r, -, h⟩ | ⟨-, -, -, -, h⟩ <;> rw [h]
    · exact hphase f _
    · unfold applyPath
      split <;> exact hs.of_eq rfl rfl
  | run =>
    refine onTaken_keeps hs fun f _ => ?_
    rcases actRun_cases f s with ⟨r, -, h⟩ | ⟨p, -, h⟩ <;> rw [h]
    · exact hphase f _
    · split <;> exact hs.of_eq rfl rfl
  | stop =>
    refine onTaken_keeps hs fun f _ => ?_
    unfold actStop
    split <;> exact hs.of_eq rfl rfl
  | gainRestart =>
    refine onTaken_keeps hs fun f _ => withArg_keeps (fun _ => hphase f _) fun t => ?_
    exact (hs.setGain ((hs.ordered t).start none)).of_eq rfl rfl
  | _ => cases hfamily

theorem restartedGain_get (s : State) (t : Fin 96) :
    (restartedGain s)[t] = { s.gain[t] with mu := s.slotTable[t].muStart, quietRun := 0, last := none } := by
  refine (mapEntries_getElem _ s.gain t.1 t.2).trans ?_
  rw [toList_getElem?_fin]

theorem restart (f : MgmtFrame) (s : State) (hs : GainLegal s) : GainLegal (actRestart f s) := by
  refine actRestart_keeps (Q := GainLegal) ?_ (fun u hu => ?_) fun u hu => ?_
  · unfold restarted
    refine of_entries hs.ordered fun t => ?_
    change GainWithin s.slotTable[t] (restartedGain s)[t]
    rw [restartedGain_get]
    exact (hs.ordered t).start none
  · rw [restartPass_only u]; exact hu.of_eq rfl rfl
  · rw [restartDump_only u]; exact hu.of_eq rfl rfl

theorem effect (c : Instr) (s : State) (hs : GainLegal s) : GainLegal (effect c s) := by
  cases h : family c with
  | reset => rw [effect_of_reset h]; exact hs
  | port => rw [effect_onlyPorts h s]; exact hs.of_eq rfl rfl
  | lane => rw [effect_onlyTraffic h s]; exact hs.of_eq rfl rfl
  | pass => rw [effect_onlyPass h s]; exact hs.of_eq rfl rfl
  | storeUse => exact storeUseClosed.effect h s hs
  | setting => exact setting h s hs
  | reading => rw [effect_onlyReads h s]; exact hs.of_eq rfl rfl
  | tapAccess => rw [effect_onlyTapAccess h s]; exact hs.of_eq rfl rfl
  | portWrite => rw [effect_onlyPortWrite h s]; exact hs.of_eq rfl rfl
  | channel => rw [effect_onlyChannelAction h s]; exact hs.of_eq rfl rfl
  | restart => exact effect_restart_keeps h hs fun f _ => restart f s hs
  | reply => rw [effect_onlyReturn h s]; exact hs.of_eq rfl rfl

theorem reset : GainLegal State.reset := by
  refine of_entries (fun t => ?_) fun t => ?_
  · rw [reset_slotTable]; unfold MuOrdered; decide
  · rw [reset_slotTable, reset_gain]; unfold GainWithin; decide

theorem step {s t : State} (h : step s = .next t) (hs : GainLegal s) : GainLegal t :=
  step_keeps_of_effect (fun _ _ hs => hs.of_eq rfl rfl) (fun _ => reset.of_eq rfl rfl) (fun _ hs => hs.of_eq rfl rfl)
    (fun s hs => by rw [returnChoose_only s]; exact hs.of_eq rfl rfl) effect h hs

end GainLegal

/-- Settles O59: each of the three invariants is kept by every command's effect and by the return arbiter's choice. -/
theorem stepKeepsTablesLegal : Obligations.StepKeepsTablesLegal := by
  unfold Obligations.StepKeepsTablesLegal
  exact fun s t h => ⟨TablesLegal.step h, PlanHolds.step h, GainLegal.step h⟩

end Machine
end Sys2Proof

namespace Sys2Proof
namespace Machine

/-! ### What a status or an expiry can do to a channel -/

theorem toFin_eq_some_iff {n m : Nat} {i : Fin n} : toFin n m = some i ↔ m = i.1 := by
  unfold toFin
  split
  · rename_i h
    rw [Option.some.injEq]
    exact ⟨fun he => by rw [← he], fun he => Fin.ext he⟩
  · rename_i h
    exact iff_of_false (fun he => by cases he) fun he => h (he ▸ i.2)

theorem OnlyCounts.setChannel {s u : State} (h : OnlyCounts s u) (t : Fin 96) (c : Channel) :
    OnlyCounts (setChannel t c s) (setChannel t c u) := by
  unfold OnlyCounts at *
  rw [h]
  rfl

theorem OnlyCounts.flushTimed {s u : State} (h : OnlyCounts s u) (t : Fin 96) :
    OnlyCounts (flushTimed t s) (flushTimed t u) := by
  unfold OnlyCounts at *
  rw [h]
  rfl

/-- R145 to R151: what a status, or an expiry, of a frame of kind k does to the channel of slot t, up to counts and
raises: nothing; a serving channel keeps its state, or takes another with its timed entry flushed; a HALTING one whose
HALT it was is HALTED. -/
inductive ChannelStep (t : Fin 96) (k : SentKind) (s : State) : State → Prop
  | none {u : State} (counts : OnlyCounts s u) : ChannelStep t k s u
  | stays {u : State} (c : Channel) (serving : s.channels[t].serving = true) (same : c.state = s.channels[t].state)
      (legal : ChannelLegal s.channels[t] → ChannelLegal c) (counts : OnlyCounts (setChannel t c s) u) :
      ChannelStep t k s u
  | flushed {u : State} (c : Channel) (serving : s.channels[t].serving = true) (legal : ChannelLegal c)
      (counts : OnlyCounts (setChannel t c (flushTimed t s)) u) : ChannelStep t k s u
  | halted {u : State} (halting : s.channels[t].state = .halting) (kind : k = .halt)
      (counts : OnlyCounts (setChannel t (Channel.haltedFor .command) s) u) : ChannelStep t k s u

theorem ChannelLegal.at {st : ChannelState} (h : st ≠ .halted) : ChannelLegal (Channel.at st) :=
  ⟨Nat.zero_le _, fun _ => rfl, iff_of_false Bool.false_ne_true h⟩

theorem ChannelLegal.haltedFor (x : HaltCause) : ChannelLegal (Channel.haltedFor x) :=
  ⟨Nat.zero_le _, fun _ => rfl, iff_of_true rfl rfl⟩

theorem channelAccept_step {t : Fin 96} {s : State} (k : SentKind) (hserving : s.channels[t].serving = true) :
    ChannelStep t k s (channelAccept t s) := by
  have hlegal : ChannelLegal (Channel.at .run) := ChannelLegal.at (by decide)
  unfold channelAccept
  split
  · exact .flushed _ hserving hlegal (OnlyCounts.refl _)
  · rename_i hprobe
    have hrun : s.channels[t].state = .run := ((Channel.serving_iff _).1 hserving).resolve_right hprobe
    exact .stays _ hserving hrun.symm (fun _ => hlegal) (OnlyCounts.refl _)

theorem channelDefer_step {t : Fin 96} {s : State} (k : SentKind) (hserving : s.channels[t].serving = true) :
    ChannelStep t k s (channelDefer t s) := by
  have hlegal : ChannelLegal (Channel.at .probe) := ChannelLegal.at (by decide)
  have hcount := incr_only (.slot t .defer) s
  unfold channelDefer
  dsimp only
  split
  · exact .flushed _ hserving hlegal (((hcount.flushTimed t).setChannel t _).trans (raise_only _ _ _))
  · rename_i hrun
    have hprobe : s.channels[t].state = .probe := ((Channel.serving_iff _).1 hserving).resolve_left hrun
    exact .stays _ hserving hprobe.symm (fun _ => hlegal) (hcount.setChannel t _)

theorem channelFault_step {t : Fin 96} {s : State} (k : SentKind) (hserving : s.channels[t].serving = true) :
    ChannelStep t k s (channelFault t s) :=
  .flushed _ hserving (ChannelLegal.haltedFor .drive)
    ((((incr_only (.slot t .fault) s).flushTimed t).setChannel t _).trans (raise_only _ _ _))

theorem channelStatus_step (t : Fin 96) (k : SentKind) (st : AnswerStatus) (s : State) :
    ChannelStep t k s (channelStatus t k st s) := by
  unfold channelStatus
  cases hstate : s.channels[t].state with
  | run | probe =>
    have hserving : s.channels[t].serving = true := by rw [Channel.serving_iff, hstate]; decide
    cases st with
    | accept => exact channelAccept_step k hserving
    | defer => exact channelDefer_step k hserving
    | fault => exact channelFault_step k hserving
  | halting =>
    cases k with
    | halt => exact .halted hstate rfl (OnlyCounts.refl _)
    | correct | probe => exact .none (OnlyCounts.refl _)
  | off | halted | retired => exact .none (OnlyCounts.refl _)

theorem channelMiss_step {t : Fin 96} {s : State} (k : SentKind) (hserving : s.channels[t].serving = true) :
    ChannelStep t k s (channelMiss t s) := by
  have hcount := incr_only (.slot t .miss) s
  unfold channelMiss
  dsimp only
  split
  · rename_i hmiss
    refine .stays { s.channels[t] with miss := s.channels[t].miss + 1 } hserving rfl
      (fun hold => ⟨hmiss, fun hrest => ?_, hold.cause⟩) (hcount.setChannel t _)
    have hfalse : s.channels[t].serving = false := hrest
    rw [hserving] at hfalse
    cases hfalse
  · exact .flushed _ hserving (ChannelLegal.at (by decide))
      (((hcount.flushTimed t).setChannel t _).trans (raise_only _ _ _))

theorem channelExpiry_step (t : Fin 96) (k : SentKind) (s : State) : ChannelStep t k s (channelExpiry t k s) := by
  unfold channelExpiry
  cases hstate : s.channels[t].state with
  | run | probe =>
    have hserving : s.channels[t].serving = true := by rw [Channel.serving_iff, hstate]; decide
    cases k with
    | halt => exact .none (OnlyCounts.refl _)
    | correct | probe => exact channelMiss_step _ hserving
  | halting =>
    cases k with
    | halt => exact .halted hstate rfl ((incr_only _ _).trans (raise_only _ _ _))
    | correct | probe => exact .none (OnlyCounts.refl _)
  | off | halted | retired => exact .none (OnlyCounts.refl _)

/-! ### What the distribution of an answer adds to the status -/

/-- t differs from s at most in the reports, the latches and what a count touches. -/
def OnlyDelivery (s t : State) : Prop :=
  t = { s with reports := t.reports, latches := t.latches, counters := t.counters, parityFlags := t.parityFlags,
               notices := t.notices }

theorem OnlyDelivery.refl (s : State) : OnlyDelivery s s := rfl

theorem OnlyDelivery.trans {s t u : State} (h : OnlyDelivery s t) (k : OnlyDelivery t u) : OnlyDelivery s u := by
  unfold OnlyDelivery at *; rw [k, h]

theorem OnlyCounts.onlyDelivery {s t : State} (h : OnlyCounts s t) : OnlyDelivery s t := by
  unfold OnlyCounts OnlyDelivery at *; rw [h]

theorem reportJoin_onlyDelivery (r : Report) (s : State) : OnlyDelivery s (reportJoin r s) := by
  unfold reportJoin
  split
  · rfl
  · exact ((incr_only _ s).trans (raise_only _ _ _)).onlyDelivery

/-- R134: the distribution is the status, up to what is delivered. -/
theorem distribute_onlyDelivery (a : Answer) (k : SentKind) (s : State) :
    OnlyDelivery (channelStatus a.slot k a.status s) (distribute a k s) := by
  unfold distribute
  dsimp only
  generalize channelStatus a.slot k a.status s = u
  cases a.report with
  | none =>
    cases a.aggressor with
    | none => exact OnlyDelivery.refl u
    | some v => rfl
  | some x =>
    refine (reportJoin_onlyDelivery ⟨a.slot, x.1, x.2⟩ u).trans ?_
    cases a.aggressor with
    | none => exact OnlyDelivery.refl _
    | some v => rfl

/-! ### The slot of a valid answer (R128, R129) -/

/-- R128: an answer that is valid on lane l comes from a slot of lane l. -/
theorem slotLane_of_valid {l : Fin 4} {f : RxFrame} {b : Bool} {a : Answer} (hclass : laneClass l f b = .valid)
    (hanswer : readAnswer f.words = some a) : slotLane a.slot = l := by
  unfold readAnswer at hanswer
  split at hanswer
  · rename_i t st ht _
    cases hanswer
    rw [toFin_eq_some_iff] at ht
    unfold laneClass at hclass
    split at hclass
    · cases hclass
    · rename_i h ws hwords
      have hheader : laneHeaderOk l h = true := by
        by_contra hbad
        rw [if_pos (by simpa using hbad)] at hclass
        cases hclass
      rw [hwords] at ht
      have haddress : headerAddress h = t.1 := ht
      simp only [laneHeaderOk, Bool.and_eq_true, decide_eq_true_eq] at hheader
      obtain ⟨⟨⟨⟨-, hlow⟩, hhigh⟩, -⟩, -⟩ := hheader
      refine Fin.ext ?_
      change t.1 / 24 = l.1
      omega
  · cases hanswer

/-! ### What is kept by the steps of a lane is kept by its commands -/

/-- P is kept by every step that a lane's command is made of: collecting on an UP line, an emptying, an entry to UP, an
answer and an expiry with the record that they remove, and the end of a transmission; counts and raises do not matter
to P. -/
structure LaneSteps (P : State → Prop) : Prop where
  counts : ∀ s u, OnlyCounts s u → P s → P u
  receive : ∀ l rx n s, s.lanes[l].up = true → P s → P (setLane l { s.lanes[l] with rx := rx, linkErrors := n } s)
  empty : ∀ l s, P s → P (laneEmpty l s)
  up : ∀ l s u, s.lanes[l].up = false → OnlyCounts (laneUp l s) u → P s → P (laneChoose l u)
  answered : ∀ (a : Answer) r s u, s.outstanding[a.slot] = some r → OnlyCounts (setOutstanding a.slot none s) u →
    P s → P (laneChoose (slotLane a.slot) (distribute a r.kind u))
  expired : ∀ t r s, s.outstanding[t] = some r → P s →
    P (laneChoose (slotLane t) (channelExpiry t r.kind (setOutstanding t none s)))
  sent : ∀ l x s u, s.lanes[l].tx = some x → OnlyCounts (setLane l { s.lanes[l] with tx := none } s) u → P s →
    P (laneChoose l (if x.enters then
      setOutstanding x.frame.slot (some ⟨x.frame.sentKind, x.frame.seq, u.laneTable[l].window⟩) u else u))

namespace LaneSteps
variable {P : State → Prop} (h : LaneSteps P)
include h

theorem laneEnterDown (l : Fin 4) (s : State) (hs : P s) : P (laneEnterDown l s) :=
  h.counts _ _ (raise_only _ _ _) (h.empty _ _ hs)

theorem laneLinkError (l : Fin 4) (s : State) (hs : P s) : P (laneLinkError l s) := by
  unfold Machine.laneLinkError
  dsimp only
  split
  · rename_i hup
    split
    · exact h.laneEnterDown _ _ hs
    · exact h.receive _ _ _ _ hup hs
  · exact hs

theorem answerMatch (l : Fin 4) (a : Answer) (s : State) (hlane : slotLane a.slot = l) (hs : P s) :
    P (answerMatch l a s) := by
  subst hlane
  unfold Machine.answerMatch
  split
  · rename_i r hr
    split
    · exact h.answered a r s _ hr (incr_only _ _) hs
    · exact h.counts _ _ (incr_only _ _) hs
  · exact h.counts _ _ (incr_only _ _) hs

theorem laneFrameEnd (l : Fin 4) (f : RxFrame) (b : Bool) (s : State) (hup : s.lanes[l].up = true) (hs : P s) :
    P (laneFrameEnd l f b s) := by
  have hended := h.receive l none s.lanes[l].linkErrors s hup hs
  have hcount : ∀ i, P (incr i (setLane l { s.lanes[l] with rx := none } s)) := fun i =>
    h.counts _ _ (incr_only _ _) hended
  unfold Machine.laneFrameEnd
  dsimp only
  cases hclass : laneClass l f b with
  | format | short | damaged => exact hcount _
  | babble => exact h.laneLinkError _ _ (hcount _)
  | valid =>
    dsimp only
    split
    · rename_i a ha
      refine h.answerMatch l a _ (slotLane_of_valid hclass ha) (h.receive l _ _ _ ?_ hended)
      rw [setLane_get]
      exact hup
    · exact hended

theorem laneOpenFrame (l : Fin 4) (s : State) (hs : P s) : P (laneOpenFrame l s) := by
  unfold Machine.laneOpenFrame
  dsimp only
  split
  · rename_i hup
    exact h.receive _ _ _ _ hup hs
  · exact hs

theorem laneStartMark (l : Fin 4) (s : State) (hs : P s) : P (laneStartMark l s) := by
  unfold Machine.laneStartMark
  dsimp only
  split
  · rename_i hup
    split
    · exact h.laneOpenFrame _ _ hs
    · exact h.laneOpenFrame _ _ (h.laneLinkError _ _ (h.laneFrameEnd _ _ _ _ hup hs))
  · exact hs

theorem laneEndMark (l : Fin 4) (s : State) (hs : P s) : P (laneEndMark l s) := by
  unfold Machine.laneEndMark
  dsimp only
  split
  · rename_i hup
    split
    · exact h.laneLinkError _ _ hs
    · exact h.laneFrameEnd _ _ _ _ hup hs
  · exact hs

theorem laneSymbolError (l : Fin 4) (s : State) (hs : P s) : P (laneSymbolError l s) := by
  unfold Machine.laneSymbolError
  dsimp only
  split
  · rename_i hup
    exact h.laneLinkError _ _ (h.receive _ _ _ _ hup hs)
  · exact hs

theorem laneWordReceived (l : Fin 4) (w : Word) (s : State) (hs : P s) : P (laneWordReceived l w s) := by
  unfold Machine.laneWordReceived
  dsimp only
  split
  · rename_i hup
    exact h.receive _ _ _ _ hup hs
  · exact hs

theorem laneLinkLock (l : Fin 4) (s : State) (hs : P s) : P (laneLinkLock l s) := by
  unfold Machine.laneLinkLock
  split
  · exact hs
  · rename_i hdown
    rw [laneEnterUp_eq]
    exact h.up l s _ (by simpa using hdown) ((raise_only _ _ _).trans (raiseEach_only _ _ _)) hs

theorem laneTransmitEnd (l : Fin 4) (s : State) (hs : P s) : P (laneTransmitEnd l s) := by
  unfold Machine.laneTransmitEnd
  dsimp only
  split
  · exact hs
  · rename_i x hx
    exact h.sent l x s _ hx (incr_only _ _) hs

theorem answerWindowExpiry (l : Fin 4) (t : Fin 96) (s : State) (hs : P s) : P (answerWindowExpiry l t s) := by
  unfold Machine.answerWindowExpiry
  split
  · rename_i hlane
    subst hlane
    split
    · exact hs
    · rename_i r hr
      exact h.expired t r s hr hs
  · exact hs

theorem effect {c : Instr} (hfamily : family c = .lane) (s : State) (hs : P s) : P (effect c s) := by
  cases c with
  | laneLinkLock l => exact h.laneLinkLock l s hs
  | laneLossOfLock l =>
    change P (laneLossOfLock l s)
    unfold laneLossOfLock
    split
    · exact h.laneEnterDown l s hs
    · exact hs
  | laneSymbolError l => exact h.laneSymbolError l s hs
  | laneWordReceived l w => exact h.laneWordReceived l w s hs
  | laneStartMark l => exact h.laneStartMark l s hs
  | laneEndMark l => exact h.laneEndMark l s hs
  | laneTransmitEnd l => exact h.laneTransmitEnd l s hs
  | answerWindowExpiry l t => exact h.answerWindowExpiry l t s hs
  | _ => cases hfamily

/-- LANE-RESET empties the lane, with LANE-DOWN where it was UP. -/
theorem actLaneReset (l : Fin 4) (f : MgmtFrame) (s : State) (hs : P s)
    (hphase : ∀ f ph u, P u → P (setPhase f ph u)) : P (actLaneReset l f s) := by
  unfold Machine.actLaneReset
  refine hphase _ _ _ ?_
  split
  · exact h.laneEnterDown l s hs
  · exact h.empty l s hs

end LaneSteps

end Machine
end Sys2Proof

namespace Sys2Proof
namespace Machine

/-! ### The channels stay legal, and live slots enabled (R66, R139, R140) -/

theorem setChannel_channels_get (t u : Fin 96) (c : Channel) (s : State) :
    (setChannel t c s).channels[u] = if u = t then c else s.channels[u] := by
  by_cases hu : u = t
  · rw [if_pos hu, hu]
    exact setChannel_get t c s
  · rw [if_neg hu]
    exact setChannel_get_ne t u c s hu

theorem onLane_iff (l : Fin 4) (t : Fin 96) : onLane l t.1 = true ↔ slotLane t = l := by
  rw [Fin.ext_iff, onLane, beq_iff_eq]
  rfl

theorem laneEmpty_channels_get (l : Fin 4) (t : Fin 96) (s : State) : (laneEmpty l s).channels[t] =
    if slotLane t = l then s.channels[t].laneLost else s.channels[t] := by
  refine (mapEntries_getElem _ s.channels t.1 t.2).trans ?_
  simp only [onLane_iff]
  rfl

theorem laneEmpty_outstanding_get (l : Fin 4) (t : Fin 96) (s : State) : (laneEmpty l s).outstanding[t] =
    if slotLane t = l then none else s.outstanding[t] := by
  refine (mapEntries_getElem _ s.outstanding t.1 t.2).trans ?_
  simp only [onLane_iff]
  rfl

theorem laneUp_channels_get (l : Fin 4) (t : Fin 96) (s : State) : (laneUp l s).channels[t] =
    if slotLane t = l ∧ resumable s.channels[t] s.slotTable[t] = true then Channel.at .probe else s.channels[t] := by
  refine (mapEntries_getElem _ s.channels t.1 t.2).trans ?_
  rw [toList_getElem?_fin]
  simp only [Bool.and_eq_true, onLane_iff]
  rfl

theorem halted_of_resumable {c : Channel} {e : SlotEntry} (h : resumable c e = true) : c.state = .halted := by
  simp only [resumable, Bool.and_eq_true, beq_iff_eq] at h
  exact h.1.1

/-- R152: what a lane's entry to DOWN makes of a channel. -/
theorem Channel.laneLost_eq (c : Channel) : c.laneLost =
    if c.state = .run ∨ c.state = .probe ∨ c.state = .halting then Channel.haltedFor .lane else c := by
  unfold Channel.laneLost
  cases hstate : c.state <;> simp

/-- R66, R139, R140: a legal channel, of an enabled slot where it is not OFF. -/
def ChannelFits (e : SlotEntry) (c : Channel) : Prop := ChannelLegal c ∧ (c.state ≠ .off → e.enabled = true)

/-- R66, R139, R140: every channel is legal and goes with its slot's entry. -/
def ChannelsFit (s : State) : Prop := ∀ t : Fin 96, ChannelFits s.slotTable[t] s.channels[t]

theorem channelsFit_iff (s : State) : ChannelsFit s ↔ ChannelsLegal s ∧ LiveSlotsEnabled s :=
  forall_and

theorem ChannelFits.laneLost {e : SlotEntry} {c : Channel} (h : ChannelFits e c) : ChannelFits e c.laneLost := by
  rw [Channel.laneLost_eq]
  split
  · rename_i hlive
    refine ⟨ChannelLegal.haltedFor .lane, fun _ => h.2 fun hoff => ?_⟩
    rw [hoff] at hlive
    rcases hlive with h | h | h <;> cases h
  · exact h

theorem ne_off_of_serving {c : Channel} (h : c.serving = true) : c.state ≠ .off := by
  rcases (Channel.serving_iff c).1 h with h | h <;> rw [h] <;> decide

namespace ChannelsFit

theorem of_eq {s t : State} (hs : ChannelsFit s) (hslots : t.slotTable = s.slotTable)
    (hchannels : t.channels = s.channels) : ChannelsFit t := by
  unfold ChannelsFit
  rw [hslots, hchannels]
  exact hs

theorem counts {s u : State} (h : OnlyCounts s u) (hs : ChannelsFit s) : ChannelsFit u := by
  rw [h]; exact hs.of_eq rfl rfl

theorem setChannel {s : State} (hs : ChannelsFit s) {t : Fin 96} {c : Channel} (hc : ChannelFits s.slotTable[t] c) :
    ChannelsFit (setChannel t c s) := by
  intro u
  rw [setChannel_slotTable, setChannel_channels_get]
  split
  · rename_i hu
    rw [hu]
    exact hc
  · exact hs u

theorem channelStep {t : Fin 96} {k : SentKind} {s u : State} (h : ChannelStep t k s u) (hs : ChannelsFit s) :
    ChannelsFit u := by
  cases h with
  | none hcounts => exact hs.counts hcounts
  | stays c hserving _ hlegal hcounts =>
    exact (hs.setChannel ⟨hlegal (hs t).1, fun _ => (hs t).2 (ne_off_of_serving hserving)⟩).counts hcounts
  | flushed c hserving hlegal hcounts =>
    have hflushed : ChannelsFit (flushTimed t s) := hs.of_eq rfl rfl
    exact (hflushed.setChannel ⟨hlegal, fun _ => (hs t).2 (ne_off_of_serving hserving)⟩).counts hcounts
  | halted hhalting _ hcounts =>
    refine (hs.setChannel ⟨ChannelLegal.haltedFor _, fun _ => (hs t).2 ?_⟩).counts hcounts
    rw [hhalting]
    decide

theorem laneChoose (l : Fin 4) {s : State} (hs : ChannelsFit s) : ChannelsFit (laneChoose l s) := by
  rw [laneChoose_frame]; exact hs.of_eq rfl rfl

theorem laneSteps : LaneSteps ChannelsFit where
  counts _ _ h hs := hs.counts h
  receive _ _ _ _ _ hs := hs.of_eq rfl rfl
  empty l s hs t := by
    change ChannelFits s.slotTable[t] (laneEmpty l s).channels[t]
    rw [laneEmpty_channels_get]
    split
    · exact (hs t).laneLost
    · exact hs t
  up l s u _ hcounts hs := by
    refine (counts hcounts fun t => ?_).laneChoose l
    change ChannelFits s.slotTable[t] (laneUp l s).channels[t]
    rw [laneUp_channels_get]
    split
    · rename_i hresumed
      refine ⟨ChannelLegal.at (by decide), fun _ => (hs t).2 ?_⟩
      rw [halted_of_resumable hresumed.2]
      decide
    · exact hs t
  answered a r s u _ hcounts hs := by
    have hremoved : ChannelsFit u := (hs.of_eq rfl rfl : ChannelsFit (setOutstanding a.slot none s)).counts hcounts
    refine laneChoose _ ?_
    rw [distribute_onlyDelivery a r.kind u]
    exact (channelStep (channelStatus_step a.slot r.kind a.status u) hremoved).of_eq rfl rfl
  expired t r s _ hs := by
    have hremoved : ChannelsFit (setOutstanding t none s) := hs.of_eq rfl rfl
    exact (channelStep (channelExpiry_step t r.kind _) hremoved).laneChoose _
  sent l x s u _ hcounts hs := by
    have hfreed : ChannelsFit u :=
      (hs.of_eq rfl rfl : ChannelsFit (setLane l { s.lanes[l] with tx := none } s)).counts hcounts
    refine laneChoose _ ?_
    split
    · exact hfreed.of_eq rfl rfl
    · exact hfreed

/-- R140: a write that would disable a live slot has been refused. -/
theorem applySlot {f : MgmtFrame} {s : State} (hs : ChannelsFit s)
    (hlive : (f.touched 6).find? (disablesLive f s) = none) : ChannelsFit (applySlot f s) := by
  intro t
  change ChannelFits (slotResult f s)[t] s.channels[t]
  refine ⟨(hs t).1, fun hoff => ?_⟩
  have henabled := (hs t).2 hoff
  by_cases htouch : f.touches 6 t.1 = true
  · have hkept := find?_touched_eq_none hlive htouch
    unfold disablesLive at hkept
    rw [toList_getElem?_fin, toList_getElem?_fin, toList_getElem?_fin] at hkept
    simpa [-Fin.getElem_fin, henabled, hoff] using hkept
  · rw [slotResult_get, if_neg htouch]
    exact henabled

theorem setting {c : Instr} (hfamily : family c = .setting) (s : State) (hs : ChannelsFit s) :
    ChannelsFit (effect c s) := by
  have hphase : ∀ f ph, ChannelsFit (setPhase f ph s) := fun f ph => hs.of_eq rfl rfl
  cases c with
  | mgmtFrameTake =>
    change ChannelsFit (mgmtFrameTake s)
    unfold mgmtFrameTake
    split
    · dsimp only
      split <;> exact hs.of_eq rfl rfl
    · exact hs
  | mwriteSource =>
    refine onTaken_keeps hs fun f _ => ?_
    rcases writeSource_cases f s with ⟨r, -, h⟩ | ⟨-, -, -, h⟩ <;> rw [h] <;> exact hs.of_eq rfl rfl
  | mwriteSlot =>
    refine onTaken_keeps hs fun f _ => ?_
    rcases writeSlot_cases f s with ⟨r, -, h⟩ | ⟨-, -, hlive, h⟩ <;> rw [h]
    · exact hphase f _
    · exact (hs.applySlot hlive).of_eq rfl rfl
  | mwritePath =>
    refine onTaken_keeps hs fun f _ => ?_
    rcases writePath_cases f s with ⟨r, -, h⟩ | ⟨-, -, -, -, h⟩ <;> rw [h]
    · exact hphase f _
    · unfold applyPath
      split <;> exact hs.of_eq rfl rfl
  | run =>
    refine onTaken_keeps hs fun f _ => ?_
    rcases actRun_cases f s with ⟨r, -, h⟩ | ⟨p, -, h⟩ <;> rw [h]
    · exact hphase f _
    · split <;> exact hs.of_eq rfl rfl
  | stop =>
    refine onTaken_keeps hs fun f _ => ?_
    unfold actStop
    split <;> exact hs.of_eq rfl rfl
  | gainRestart => exact onTaken_keeps hs fun f _ => withArg_keeps (fun _ => hphase f _) fun _ => hs.of_eq rfl rfl
  | _ => cases hfamily

theorem channel {c : Instr} (hfamily : family c = .channel) (s : State) (hs : ChannelsFit s) :
    ChannelsFit (effect c s) := by
  have hphase : ∀ f ph u, ChannelsFit u → ChannelsFit (setPhase f ph u) := fun f ph u hu => hu.of_eq rfl rfl
  have hprobe : ChannelLegal (Channel.at .probe) := ChannelLegal.at (by decide)
  cases c with
  | startSlot =>
    refine onTaken_keeps hs fun f _ => withArg_keeps (fun _ => hphase f _ s hs) fun t => ?_
    rcases startChannel_cases t f s with ⟨r, -, h⟩ | ⟨-, henabled, h⟩ | ⟨hhalted, h⟩ <;> rw [h]
    · exact hphase f _ s hs
    · exact hphase f _ _ (hs.setChannel ⟨hprobe, fun _ => henabled⟩)
    · refine hphase f _ _ ((hs.setChannel ⟨hprobe, fun _ => (hs t).2 ?_⟩).counts (raise_only _ _ _))
      rw [hhalted]
      decide
  | haltSlot =>
    refine onTaken_keeps hs fun f _ => withArg_keeps (fun _ => hphase f _ s hs) fun t => ?_
    rcases haltChannel_cases t f s with ⟨r, -, h⟩ | h | ⟨hserving, -, h⟩ <;> rw [h]
    · exact hphase f _ s hs
    · exact hphase f _ s hs
    · refine hphase f _ _ ?_
      rw [enterHalting_eq]
      refine laneChoose _ ?_
      have hset : ChannelsFit (Machine.setChannel t (Channel.at .halting) s) :=
        hs.setChannel ⟨ChannelLegal.at (by decide), fun _ => (hs t).2 (ne_off_of_serving hserving)⟩
      exact hset.of_eq rfl rfl
  | releaseSlot =>
    refine onTaken_keeps hs fun f _ => withArg_keeps (fun _ => hphase f _ s hs) fun t => ?_
    rcases releaseChannel_cases t f s with ⟨r, -, h⟩ | h | ⟨-, h⟩ <;> rw [h]
    · exact hphase f _ s hs
    · exact hphase f _ s hs
    · exact hphase f _ _ (hs.setChannel ⟨ChannelLegal.at (by decide), fun h => absurd rfl h⟩)
  | laneReset =>
    exact onTaken_keeps hs fun f _ => withArg_keeps (fun _ => hphase f _ s hs) fun l =>
      laneSteps.actLaneReset l f s hs hphase
  | _ => cases hfamily

theorem restart (f : MgmtFrame) (s : State) : ChannelsFit (actRestart f s) := by
  refine actRestart_keeps (Q := ChannelsFit) ?_ (fun u hu => ?_) fun u hu => ?_
  · unfold restarted
    intro t
    change ChannelFits s.slotTable[t] (Vector.replicate 96 Channel.reset)[t]
    rw [replicate_get]
    exact ⟨ChannelLegal.at (by decide), fun h => absurd rfl h⟩
  · rw [restartPass_only u]; exact hu.of_eq rfl rfl
  · rw [restartDump_only u]; exact hu.of_eq rfl rfl

theorem effect (c : Instr) (s : State) (hs : ChannelsFit s) : ChannelsFit (effect c s) := by
  cases h : family c with
  | reset => rw [effect_of_reset h]; exact hs
  | port => rw [effect_onlyPorts h s]; exact hs.of_eq rfl rfl
  | lane => exact laneSteps.effect h s hs
  | pass => rw [effect_onlyPass h s]; exact hs.of_eq rfl rfl
  | storeUse => rw [effect_onlyStoreUse h s]; exact hs.of_eq rfl rfl
  | setting => exact setting h s hs
  | reading => rw [effect_onlyReads h s]; exact hs.of_eq rfl rfl
  | tapAccess => rw [effect_onlyTapAccess h s]; exact hs.of_eq rfl rfl
  | portWrite => rw [effect_onlyPortWrite h s]; exact hs.of_eq rfl rfl
  | channel => exact channel h s hs
  | restart => exact effect_restart_keeps h hs fun f _ => restart f s
  | reply => rw [effect_onlyReturn h s]; exact hs.of_eq rfl rfl

theorem reset : ChannelsFit State.reset := by
  intro t
  rw [reset_slotTable, reset_channels]
  exact ⟨ChannelLegal.at (by decide), fun h => absurd rfl h⟩

theorem step {s t : State} (h : step s = .next t) (hs : ChannelsFit s) : ChannelsFit t :=
  step_keeps_of_effect (fun _ _ hs => hs.of_eq rfl rfl) (fun _ => reset.of_eq rfl rfl) (fun _ hs => hs.of_eq rfl rfl)
    (fun s hs => by rw [returnChoose_only s]; exact hs.of_eq rfl rfl) effect h hs

end ChannelsFit

end Machine
end Sys2Proof

namespace Sys2Proof
namespace Machine

/-! ### What the arbiter's choice takes from the queues (R160) -/

/-- R160: the frame chosen is an eligible entry's, which leaves its queue. -/
theorem laneNext_cases {s : State} {k : Lane} {f : LaneFrame} {timed : List TimedEntry} {untimed : List HaltEntry}
    (h : laneNext s k = some (f, timed, untimed)) :
    (∃ e a b, k.timed = a ++ e :: b ∧ timed = a ++ b ∧ untimed = k.untimed ∧ f = e.frame ∧
      s.outstanding[e.slot] = none) ∨
    ∃ e a b, k.untimed = a ++ e :: b ∧ untimed = a ++ b ∧ timed = k.timed ∧ f = e.frame ∧
      s.outstanding[e.slot] = none := by
  unfold laneNext at h
  split at h
  · rename_i e rest hfirst
    cases h
    obtain ⟨a, b, hq, hrest, hp, -⟩ := takeFirst_spec _ _ _ _ hfirst
    have heligible := (Bool.and_eq_true_iff.1 hp).2
    exact .inr ⟨e, a, b, hq, hrest, rfl, rfl, (eligible_iff s e.slot).1 heligible⟩
  · split at h
    · rename_i e rest hfirst
      cases h
      obtain ⟨a, b, hq, hrest, hp, -⟩ := takeFirst_spec _ _ _ _ hfirst
      exact .inl ⟨e, a, b, hq, hrest, rfl, rfl, (eligible_iff s e.slot).1 hp⟩
    · split at h
      · rename_i e rest hfirst
        cases h
        obtain ⟨a, b, hq, hrest, hp, -⟩ := takeFirst_spec _ _ _ _ hfirst
        exact .inr ⟨e, a, b, hq, hrest, rfl, rfl, (eligible_iff s e.slot).1 hp⟩
      · cases h

@[simp] theorem TimedEntry.frame_slot (e : TimedEntry) : e.frame.slot = e.slot := by
  unfold TimedEntry.frame
  split <;> rfl

@[simp] theorem HaltEntry.frame_slot (e : HaltEntry) : e.frame.slot = e.slot := rfl

theorem TimedEntry.frame_sentKind_ne (e : TimedEntry) : e.frame.sentKind ≠ .halt := by
  unfold TimedEntry.frame
  split <;> (intro h; cases h)

theorem TimedKind.channelState_cases (k : TimedKind) : k.channelState = .run ∨ k.channelState = .probe := by
  cases k with
  | correct v c => exact .inl rfl
  | probe => exact .inr rfl

theorem Channel.serving_congr {c d : Channel} (h : c.state = d.state) : c.serving = d.serving := by
  unfold Channel.serving
  rw [h]

/-! ### What waits or is out for a slot goes with its channel (R140, R150, R151, R155) -/

/-- R140: a frame of kind k, out or on the line, goes with channel c. -/
def FrameFits (k : SentKind) (c : Channel) : Prop :=
  (k = .halt ∧ c.state = .halting) ∨ (k ≠ .halt ∧ (c.serving = true ∨ c.state = .halting))

theorem FrameFits.congr {k : SentKind} {c d : Channel} (hstate : c.state = d.state) (h : FrameFits k d) :
    FrameFits k c := by
  unfold FrameFits at *
  rw [Channel.serving_congr hstate, hstate]
  exact h

/-- The frame on a line is of slot t, and its end will enter a record. -/
def Sends (s : State) (t : Fin 96) : Prop :=
  ∃ l : Fin 4, ∃ x, s.lanes[l].tx = some x ∧ x.enters = true ∧ x.frame.slot = t

/-- Nothing is out, on a line or waiting for slot t, but for a timed entry that goes with channel state c. -/
structure SlotQuiet (t : Fin 96) (c : ChannelState) (s : State) : Prop where
  out : s.outstanding[t] = none
  tx : ¬ Sends s t
  timed : ∀ l : Fin 4, ∀ e ∈ s.lanes[l].timed, e.slot = t → c = e.kind.channelState
  untimed : ∀ l : Fin 4, ∀ e ∈ s.lanes[l].untimed, e.slot ≠ t

namespace TrafficConsistent

/-- Fewer entries, records and frames on the lines, and the same channels. -/
theorem mono {s t : State} (hs : TrafficConsistent s) (hchannels : t.channels = s.channels)
    (hout : ∀ (u : Fin 96) r, t.outstanding[u] = some r → s.outstanding[u] = some r)
    (htimed : ∀ l : Fin 4, t.lanes[l].timed.Sublist s.lanes[l].timed)
    (huntimed : ∀ l : Fin 4, (t.lanes[l].untimed.map (·.slot)).Sublist (s.lanes[l].untimed.map (·.slot)))
    (htx : ∀ (l : Fin 4) x, t.lanes[l].tx = some x → ∃ y, s.lanes[l].tx = some y ∧ x.frame = y.frame ∧
      (x.enters = true → y.enters = true)) : TrafficConsistent t := by
  have hold : ∀ (l : Fin 4), ∀ e ∈ t.lanes[l].untimed, ∃ e' ∈ s.lanes[l].untimed, e'.slot = e.slot := fun l e he =>
    List.mem_map.1 ((huntimed l).subset (List.mem_map_of_mem he))
  refine ⟨⟨fun l e he => ?_, fun l => ?_, fun l e he => ?_⟩, fun l e he => ?_, fun l => ?_, fun l e he => ?_,
    fun u r hr => ?_, fun l x hx => ?_, fun l x hx hentering => ?_⟩
  · exact hs.timed.onLane l e ((htimed l).subset he)
  · exact (hs.timed.once l).sublist ((htimed l).map _)
  · rw [hchannels]
    exact hs.timed.kind l e ((htimed l).subset he)
  · obtain ⟨e', he', hslot⟩ := hold l e he
    rw [← hslot]
    exact hs.untimedOn l e' he'
  · exact (hs.untimedOnce l).sublist (huntimed l)
  · obtain ⟨e', he', hslot⟩ := hold l e he
    obtain ⟨hhalting, hrecord, hline⟩ := hs.untimed l e' he'
    simp only [hslot] at hhalting hrecord hline
    rw [hchannels]
    refine ⟨hhalting, fun r hr => hrecord r (hout _ r hr), fun x hx hentering hx' => ?_⟩
    obtain ⟨y, hy, hframe, hentered⟩ := htx l x hx
    rw [hframe] at hx' ⊢
    exact hline y hy (hentered hentering) hx'
  · rw [hchannels]
    exact hs.out u r (hout u r hr)
  · obtain ⟨y, hy, hframe, -⟩ := htx l x hx
    rw [hframe]
    exact hs.txOn l y hy
  · obtain ⟨y, hy, hframe, hentered⟩ := htx l x hx
    obtain ⟨hnone, hfits⟩ := hs.tx l y hy (hentered hentering)
    simp only [← hframe] at hnone hfits
    rw [hchannels]
    refine ⟨?_, hfits⟩
    cases hrecord : t.outstanding[x.frame.slot] with
    | none => rfl
    | some r =>
      have hsome := hout _ r hrecord
      rw [hnone] at hsome
      cases hsome

theorem of_eq {s t : State} (hs : TrafficConsistent s) (hchannels : t.channels = s.channels)
    (hout : t.outstanding = s.outstanding) (hlanes : t.lanes = s.lanes) : TrafficConsistent t := by
  refine hs.mono hchannels (fun u r h => ?_) (fun l => ?_) (fun l => ?_) fun l x h => ⟨x, ?_, rfl, id⟩
  · rwa [hout] at h
  · rw [hlanes]
  · rw [hlanes]
  · rwa [hlanes] at h

theorem counts {s u : State} (h : OnlyCounts s u) (hs : TrafficConsistent s) : TrafficConsistent u := by
  rw [h]; exact hs.of_eq rfl rfl rfl

/-- One lane changed, to fewer entries and the same line or an empty one. -/
theorem setLane {s : State} (hs : TrafficConsistent s) {l : Fin 4} {k : Lane}
    (htimed : k.timed.Sublist s.lanes[l].timed) (huntimed : k.untimed.Sublist s.lanes[l].untimed)
    (htx : k.tx = s.lanes[l].tx ∨ k.tx = none) : TrafficConsistent (setLane l k s) := by
  refine hs.mono rfl (fun u r h => h) (fun m => ?_) (fun m => ?_) fun m x h => ⟨x, ?_, rfl, id⟩
  · rw [setLane_lanes_get]
    split
    · rename_i hm; rw [hm]; exact htimed
    · exact List.Sublist.refl _
  · rw [setLane_lanes_get]
    split
    · rename_i hm; rw [hm]; exact huntimed.map _
    · exact List.Sublist.refl _
  · rw [setLane_lanes_get] at h
    split at h
    · rename_i hm
      rw [hm]
      rcases htx with hsame | hnone
      · rwa [hsame] at h
      · rw [hnone] at h; cases h
    · exact h

theorem flushTimed (t : Fin 96) {s : State} (hs : TrafficConsistent s) : TrafficConsistent (flushTimed t s) :=
  hs.setLane List.filter_sublist (List.Sublist.refl _) (.inl rfl)

/-- The channels changed where the slot is quiet, and elsewhere not in their state. -/
theorem channels {s : State} (hs : TrafficConsistent s) {cs : Vector Channel 96}
    (h : ∀ u : Fin 96, cs[u].state = s.channels[u].state ∨ SlotQuiet u cs[u].state s) :
    TrafficConsistent { s with channels := cs } := by
  refine ⟨⟨hs.timed.onLane, hs.timed.once, fun l e he => ?_⟩, hs.untimedOn, hs.untimedOnce, fun l e he => ?_,
    fun u r hr => ?_, hs.txOn, fun l x hx hentering => ?_⟩
  · rcases h e.slot with hsame | hquiet
    · exact hsame.trans (hs.timed.kind l e he)
    · exact hquiet.timed l e he rfl
  · obtain ⟨hhalting, hrecord, hline⟩ := hs.untimed l e he
    rcases h e.slot with hsame | hquiet
    · exact ⟨hsame.trans hhalting, hrecord, hline⟩
    · exact absurd rfl (hquiet.untimed l e he)
  · rcases h u with hsame | hquiet
    · exact FrameFits.congr hsame (hs.out u r hr)
    · have hnone : s.outstanding[u] = some r := hr
      rw [hquiet.out] at hnone
      cases hnone
  · obtain ⟨hnone, hfits⟩ := hs.tx l x hx hentering
    refine ⟨hnone, ?_⟩
    rcases h x.frame.slot with hsame | hquiet
    · exact FrameFits.congr hsame hfits
    · exact absurd ⟨l, x, hx, hentering, rfl⟩ hquiet.tx

theorem setChannel {s : State} (hs : TrafficConsistent s) {t : Fin 96} {c : Channel}
    (h : c.state = s.channels[t].state ∨ SlotQuiet t c.state s) : TrafficConsistent (setChannel t c s) := by
  refine hs.channels fun u => ?_
  change (Machine.setChannel t c s).channels[u].state = _ ∨ SlotQuiet u (Machine.setChannel t c s).channels[u].state s
  rw [setChannel_channels_get]
  split
  · rename_i hu; rw [hu]; exact h
  · exact .inl rfl

/-- R139, R151: a channel that neither serves nor halts has nothing out, on a line or waiting. -/
theorem quiet_of_resting {s : State} (hs : TrafficConsistent s) {t : Fin 96} (hserving : s.channels[t].serving = false)
    (hhalting : s.channels[t].state ≠ .halting) (c : ChannelState) : SlotQuiet t c s := by
  have hfits : ∀ k, ¬ FrameFits k s.channels[t] := by
    rintro k (⟨-, h⟩ | ⟨-, h | h⟩)
    · exact hhalting h
    · rw [hserving] at h; cases h
    · exact hhalting h
  refine ⟨?_, ?_, fun l e he het => ?_, fun l e he het => ?_⟩
  · cases hrecord : s.outstanding[t] with
    | none => rfl
    | some r => exact absurd (hs.out t r hrecord) (hfits _)
  · rintro ⟨l, x, hx, hentering, rfl⟩
    exact hfits _ (hs.tx l x hx hentering).2
  · subst het
    have hkind := hs.timed.kind l e he
    rw [← Bool.not_eq_true, Channel.serving_iff, hkind] at hserving
    exact absurd e.kind.channelState_cases hserving
  · subst het
    exact hhalting (hs.untimed l e he).1

/-- R125, R160: a frame that goes with its slot's channel begins on a line; no HALT of its slot waits behind it. -/
theorem startTx {s : State} (hs : TrafficConsistent s) {l : Fin 4} {x : LaneTx} (hlane : slotLane x.frame.slot = l)
    (hfree : s.outstanding[x.frame.slot] = none) (hfits : FrameFits x.frame.sentKind s.channels[x.frame.slot])
    (hhalt : x.frame.sentKind = .halt → ∀ e ∈ s.lanes[l].untimed, e.slot ≠ x.frame.slot) :
    TrafficConsistent (Machine.setLane l { s.lanes[l] with tx := some x } s) := by
  have hlanes := fun m : Fin 4 => setLane_lanes_get l m { s.lanes[l] with tx := some x } s
  generalize hu : Machine.setLane l { s.lanes[l] with tx := some x } s = u at hlanes
  have hchannels : u.channels = s.channels := by rw [← hu]; rfl
  have hout : u.outstanding = s.outstanding := by rw [← hu]; rfl
  have htimed : ∀ m : Fin 4, u.lanes[m].timed = s.lanes[m].timed := fun m => by
    rw [hlanes]
    split
    · rename_i hm; rw [hm]
    · rfl
  have huntimed : ∀ m : Fin 4, u.lanes[m].untimed = s.lanes[m].untimed := fun m => by
    rw [hlanes]
    split
    · rename_i hm; rw [hm]
    · rfl
  have htx : ∀ (m : Fin 4) y, u.lanes[m].tx = some y → (m = l ∧ y = x) ∨ s.lanes[m].tx = some y := fun m y hy => by
    rw [hlanes] at hy
    split at hy
    · rename_i hm
      exact .inl ⟨hm, (Option.some.inj hy).symm⟩
    · exact .inr hy
  refine ⟨⟨fun m e he => ?_, fun m => ?_, fun m e he => ?_⟩, fun m e he => ?_, fun m => ?_, fun m e he => ?_,
    fun t r hr => ?_, fun m y hy => ?_, fun m y hy hentering => ?_⟩
  · rw [htimed] at he
    exact hs.timed.onLane m e he
  · rw [htimed]
    exact hs.timed.once m
  · rw [htimed] at he
    rw [hchannels]
    exact hs.timed.kind m e he
  · rw [huntimed] at he
    exact hs.untimedOn m e he
  · rw [huntimed]
    exact hs.untimedOnce m
  · rw [huntimed] at he
    obtain ⟨hhalting, hrecord, hline⟩ := hs.untimed m e he
    rw [hchannels, hout]
    refine ⟨hhalting, hrecord, fun y hy hentering hslot hkind => ?_⟩
    rcases htx m y hy with ⟨rfl, rfl⟩ | hold
    · exact hhalt hkind e he hslot.symm
    · exact hline y hold hentering hslot hkind
  · rw [hchannels]
    rw [hout] at hr
    exact hs.out t r hr
  · rcases htx m y hy with ⟨rfl, rfl⟩ | hold
    · exact hlane
    · exact hs.txOn m y hold
  · rw [hchannels, hout]
    rcases htx m y hy with ⟨rfl, rfl⟩ | hold
    · exact ⟨hfree, hfits⟩
    · exact hs.tx m y hold hentering

/-- R160, R161: the chosen entry goes from its queue to the line. -/
theorem laneChoose (l : Fin 4) {s : State} (hs : TrafficConsistent s) : TrafficConsistent (laneChoose l s) := by
  rcases laneChoose_cases l s with hsame | ⟨f, timed, untimed, -, -, hnext, hset⟩
  · rwa [hsame]
  · obtain ⟨htimed, huntimed⟩ := laneNext_sublist hnext
    have htaken : TrafficConsistent (Machine.setLane l { s.lanes[l] with timed := timed, untimed := untimed } s) :=
      hs.setLane htimed huntimed (.inl rfl)
    have hstart : Machine.laneChoose l s = Machine.setLane l
        { (Machine.setLane l { s.lanes[l] with timed := timed, untimed := untimed } s).lanes[l] with
          tx := some ⟨f, true⟩ } (Machine.setLane l { s.lanes[l] with timed := timed, untimed := untimed } s) := by
      rw [hset, setLane_get, setLane_setLane]
    rw [hstart]
    rcases laneNext_cases hnext with ⟨e, a, b, hq, -, -, rfl, hfree⟩ | ⟨e, a, b, hq, hrest, -, rfl, hfree⟩
    · have he : e ∈ s.lanes[l].timed := by rw [hq]; exact List.mem_append_right _ (List.mem_cons_self ..)
      have hserving : s.channels[e.slot].serving = true := by
        rw [Channel.serving_iff, hs.timed.kind l e he]
        exact e.kind.channelState_cases
      have hfits : FrameFits e.frame.sentKind s.channels[e.slot] := .inr ⟨e.frame_sentKind_ne, .inl hserving⟩
      simp only [← e.frame_slot] at hfree hfits
      exact htaken.startTx ((congrArg slotLane e.frame_slot).trans (hs.timed.onLane l e he)) hfree hfits
        fun h => absurd h e.frame_sentKind_ne
    · have he : e ∈ s.lanes[l].untimed := by rw [hq]; exact List.mem_append_right _ (List.mem_cons_self ..)
      refine htaken.startTx (l := l) (x := ⟨e.frame, true⟩) (hs.untimedOn l e he) hfree
        (.inl ⟨rfl, (hs.untimed l e he).1⟩) fun _ x hx hslot => ?_
      rw [setLane_get] at hx
      have honce := hs.untimedOnce l
      rw [hq, List.map_append, List.map_cons] at honce
      have hnot := (List.nodup_cons.1 (List.nodup_middle.1 honce)).1
      rw [← List.map_append, ← hrest] at hnot
      have hslot' : x.slot = e.slot := hslot
      exact hnot (hslot' ▸ List.mem_map_of_mem hx)

/-- R125, R126: a record enters for a slot that has none and whose frame is on no line; it goes with the channel. -/
theorem record {s : State} (hs : TrafficConsistent s) {t : Fin 96} {r : OutRecord} (hsends : ¬ Sends s t)
    (hfits : FrameFits r.kind s.channels[t])
    (hhalt : r.kind = .halt → ∀ l : Fin 4, ∀ e ∈ s.lanes[l].untimed, e.slot ≠ t) :
    TrafficConsistent (setOutstanding t (some r) s) := by
  have hget : ∀ u : Fin 96, (setOutstanding t (some r) s).outstanding[u] = if u = t then some r else s.outstanding[u] :=
    fun u => by
      split
      · rename_i hu; rw [hu]; exact setOutstanding_get ..
      · rename_i hu; exact setOutstanding_get_ne _ _ _ _ hu
  refine ⟨⟨hs.timed.onLane, hs.timed.once, hs.timed.kind⟩, hs.untimedOn, hs.untimedOnce,
    fun l e he => ?_, fun u x hx => ?_, hs.txOn, fun l x hx hentering => ?_⟩
  · obtain ⟨hhalting, hrecord, hline⟩ := hs.untimed l e he
    refine ⟨hhalting, fun x hx => ?_, hline⟩
    rw [hget] at hx
    split at hx
    · rename_i het
      cases hx
      exact fun hkind => hhalt hkind l e he het
    · exact hrecord x hx
  · rw [hget] at hx
    split at hx
    · rename_i hu
      cases hx
      subst hu
      exact hfits
    · exact hs.out u x hx
  · obtain ⟨hnone, hfits'⟩ := hs.tx l x hx hentering
    refine ⟨?_, hfits'⟩
    rw [hget]
    split
    · rename_i hu
      exact absurd ⟨l, x, hx, hentering, hu⟩ hsends
    · exact hnone

/-- R131, R133: the record of a slot is removed. -/
theorem removed {s : State} (hs : TrafficConsistent s) (t : Fin 96) : TrafficConsistent (setOutstanding t none s) := by
  refine hs.mono rfl (fun u r hr => ?_) (fun _ => List.Sublist.refl _) (fun _ => List.Sublist.refl _)
    fun l x hx => ⟨x, hx, rfl, id⟩
  by_cases hu : u = t
  · subst hu
    rw [setOutstanding_get] at hr
    cases hr
  · rwa [setOutstanding_get_ne _ _ _ _ hu] at hr

theorem Sends.of_lanes {s u : State} {t : Fin 96} (h : u.lanes = s.lanes) (hsends : Sends u t) : Sends s t := by
  unfold Sends at *
  rwa [h] at hsends

/-- R145 to R151: what a status or an expiry does, the record r of slot t removed. -/
theorem channelStep {t : Fin 96} {r : OutRecord} {s v u : State} (hs : TrafficConsistent s)
    (hr : s.outstanding[t] = some r) (hv : OnlyCounts (setOutstanding t none s) v) (h : ChannelStep t r.kind v u) :
    TrafficConsistent u := by
  have hremoved : TrafficConsistent v := (hs.removed t).counts hv
  have hchannels : v.channels = s.channels := by rw [hv]; rfl
  have hlanes : v.lanes = s.lanes := by rw [hv]; rfl
  have hnone : v.outstanding[t] = none := by rw [hv]; exact setOutstanding_get ..
  have hsends : ¬ Sends v t := by
    rintro ⟨l, x, hx, hentering, rfl⟩
    rw [hlanes] at hx
    have hfree := (hs.tx l x hx hentering).1
    rw [hr] at hfree
    cases hfree
  cases h with
  | none hcounts => exact hremoved.counts hcounts
  | stays c _ hsame _ hcounts => exact (hremoved.setChannel (.inl hsame)).counts hcounts
  | flushed c hserving _ hcounts =>
    have hflush := fun l : Fin 4 => setLane_lanes_get (slotLane t) l { v.lanes[slotLane t] with
      timed := v.lanes[slotLane t].timed.filter (fun e => e.slot ≠ t) } v
    refine ((hremoved.flushTimed t).setChannel (.inr ⟨hnone, ?_, fun l e he het => ?_, fun l e he het => ?_⟩)).counts
      hcounts
    · rintro ⟨l, x, hx, hentering, hslot⟩
      unfold Machine.flushTimed at hx
      rw [hflush] at hx
      split at hx
      · exact hsends ⟨slotLane t, x, hx, hentering, hslot⟩
      · exact hsends ⟨l, x, hx, hentering, hslot⟩
    · unfold Machine.flushTimed at he
      rw [hflush] at he
      split at he
      · exact absurd het (by simpa using (List.mem_filter.1 he).2)
      · rename_i hl
        exact absurd (het ▸ hremoved.timed.onLane l e he).symm hl
    · subst het
      unfold Machine.flushTimed at he
      rw [hflush] at he
      have hhalting : v.channels[e.slot].state = .halting := by
        split at he
        · exact (hremoved.untimed _ e he).1
        · exact (hremoved.untimed l e he).1
      rw [Channel.serving_iff, hhalting] at hserving
      rcases hserving with h | h <;> cases h
  | halted hhalting hkind hcounts =>
    refine (hremoved.setChannel (.inr ⟨hnone, hsends, fun l e he het => ?_, fun l e he het => ?_⟩)).counts hcounts
    · subst het
      have hstate := hremoved.timed.kind l e he
      rw [hhalting] at hstate
      rcases e.kind.channelState_cases with h | h <;> rw [h] at hstate <;> cases hstate
    · subst het
      rw [hlanes] at he
      exact (hs.untimed l e he).2.1 r hr hkind

/-- R152: the lane's records, lines and queues are gone, and its live channels HALTED. -/
theorem laneEmpty (l : Fin 4) {s : State} (hs : TrafficConsistent s) : TrafficConsistent (laneEmpty l s) := by
  have hempty : TrafficConsistent { s with
      lanes := (Machine.laneEmpty l s).lanes, outstanding := (Machine.laneEmpty l s).outstanding } := by
    refine hs.mono rfl (fun u r hr => ?_) (fun m => ?_) (fun m => ?_) fun m x hx => ⟨x, ?_, rfl, id⟩
    · change (Machine.laneEmpty l s).outstanding[u] = some r at hr
      rw [laneEmpty_outstanding_get] at hr
      split at hr
      · cases hr
      · exact hr
    · change (Machine.laneEmpty l s).lanes[m].timed.Sublist _
      rw [laneEmpty_lanes_get]
      split
      · exact List.nil_sublist _
      · exact List.Sublist.refl _
    · change ((Machine.laneEmpty l s).lanes[m].untimed.map _).Sublist _
      rw [laneEmpty_lanes_get]
      split
      · exact List.nil_sublist _
      · exact List.Sublist.refl _
    · change (Machine.laneEmpty l s).lanes[m].tx = some x at hx
      rw [laneEmpty_lanes_get] at hx
      split at hx
      · cases hx
      · exact hx
  refine hempty.channels (cs := (Machine.laneEmpty l s).channels) fun u => ?_
  rw [laneEmpty_channels_get]
  split
  · rename_i hlane
    refine .inr ⟨?_, ?_, fun m e he het => ?_, fun m e he het => ?_⟩
    · change (Machine.laneEmpty l s).outstanding[u] = none
      rw [laneEmpty_outstanding_get, if_pos hlane]
    · rintro ⟨m, x, hx, -, rfl⟩
      have hon := hempty.txOn m x hx
      change (Machine.laneEmpty l s).lanes[m].tx = some x at hx
      rw [laneEmpty_lanes_get, if_pos (hon.symm.trans hlane)] at hx
      cases hx
    · subst het
      have hon := hempty.timed.onLane m e he
      change e ∈ (Machine.laneEmpty l s).lanes[m].timed at he
      rw [laneEmpty_lanes_get, if_pos (hon.symm.trans hlane)] at he
      cases he
    · subst het
      have hon := hempty.untimedOn m e he
      change e ∈ (Machine.laneEmpty l s).lanes[m].untimed at he
      rw [laneEmpty_lanes_get, if_pos (hon.symm.trans hlane)] at he
      cases he
  · exact .inl rfl

/-- R153: the resumed channels were HALTED, and nothing waited for them. -/
theorem laneUp (l : Fin 4) {s : State} (hs : TrafficConsistent s) : TrafficConsistent (laneUp l s) := by
  have hlane : TrafficConsistent (Machine.setLane l
      { s.lanes[l] with up := true, training := false, linkErrors := 0 } s) :=
    hs.setLane (List.Sublist.refl _) (List.Sublist.refl _) (.inl rfl)
  have hresumed : TrafficConsistent { (Machine.setLane l
      { s.lanes[l] with up := true, training := false, linkErrors := 0 } s) with
        channels := (Machine.laneUp l s).channels } := by
    refine hlane.channels fun u => ?_
    rw [laneUp_channels_get]
    split
    · rename_i h
      have hhalted : s.channels[u].state = .halted := halted_of_resumable h.2
      refine .inr (hlane.quiet_of_resting ?_ ?_ _)
      · change s.channels[u].serving = false
        rw [← Bool.not_eq_true, Channel.serving_iff, hhalted]
        decide
      · change s.channels[u].state ≠ .halting
        rw [hhalted]
        decide
    · exact .inl rfl
  exact hresumed.of_eq rfl rfl rfl

/-- R125: the end of a frame that enters a record: the line is free, and the record in place. -/
theorem sent {l : Fin 4} {x : LaneTx} {s u : State} (hs : TrafficConsistent s) (hx : s.lanes[l].tx = some x)
    (hu : OnlyCounts (Machine.setLane l { s.lanes[l] with tx := none } s) u) (window : Nat) :
    TrafficConsistent (if x.enters then
      setOutstanding x.frame.slot (some ⟨x.frame.sentKind, x.frame.seq, window⟩) u else u) := by
  have hfreed : TrafficConsistent u :=
    (hs.setLane (l := l) (k := { s.lanes[l] with tx := none }) (List.Sublist.refl _) (List.Sublist.refl _)
      (.inr rfl)).counts hu
  have hchannels : u.channels = s.channels := by rw [hu]; rfl
  have hlanes : ∀ m : Fin 4, u.lanes[m] = if m = l then { s.lanes[l] with tx := none } else s.lanes[m] := fun m => by
    rw [hu]
    exact setLane_lanes_get _ _ _ _
  split
  · rename_i hentering
    obtain ⟨hnone, hfits⟩ := hs.tx l x hx hentering
    have hon := hs.txOn l x hx
    refine hfreed.record ?_ ?_ fun hkind m e he hslot => ?_
    · rintro ⟨m, y, hy, -, hslot⟩
      have hony := hfreed.txOn m y hy
      rw [hlanes, if_pos (hony.symm.trans ((congrArg slotLane hslot).trans hon))] at hy
      cases hy
    · rw [hchannels]
      exact hfits
    · have hone := hfreed.untimedOn m e he
      have hm : m = l := hone.symm.trans ((congrArg slotLane hslot).trans hon)
      rw [hlanes, if_pos hm] at he
      exact (hs.untimed l e he).2.2 x hx hentering hslot.symm hkind
  · exact hfreed

theorem laneSteps : LaneSteps TrafficConsistent where
  counts _ _ h hs := hs.counts h
  receive _ _ _ _ _ hs := hs.setLane (List.Sublist.refl _) (List.Sublist.refl _) (.inl rfl)
  empty l _ hs := hs.laneEmpty l
  up l _ _ _ hcounts hs := ((hs.laneUp l).counts hcounts).laneChoose l
  answered a r s u hr hcounts hs := by
    refine laneChoose _ ?_
    rw [distribute_onlyDelivery a r.kind u]
    exact (hs.channelStep hr hcounts (channelStatus_step a.slot r.kind a.status u)).of_eq rfl rfl rfl
  expired t r s hr hs := (hs.channelStep hr (OnlyCounts.refl _) (channelExpiry_step t r.kind _)).laneChoose _
  sent l _ _ _ hx hcounts hs := (hs.sent hx hcounts _).laneChoose l

end TrafficConsistent

end Machine
end Sys2Proof

namespace Sys2Proof
namespace Machine

namespace TrafficConsistent

/-- R156: an entry that goes with its channel joins the tail of a queue that holds none of its slot. -/
theorem appendTimed {s : State} (hs : TrafficConsistent s) {e : TimedEntry}
    (hkind : s.channels[e.slot].state = e.kind.channelState)
    (hnew : ∀ x ∈ s.lanes[slotLane e.slot].timed, x.slot ≠ e.slot) :
    TrafficConsistent (Machine.setLane (slotLane e.slot) { s.lanes[slotLane e.slot] with
      timed := s.lanes[slotLane e.slot].timed ++ [e] } s) := by
  have hlanes := fun m : Fin 4 => setLane_lanes_get (slotLane e.slot) m { s.lanes[slotLane e.slot] with
    timed := s.lanes[slotLane e.slot].timed ++ [e] } s
  generalize hu : Machine.setLane (slotLane e.slot) { s.lanes[slotLane e.slot] with
    timed := s.lanes[slotLane e.slot].timed ++ [e] } s = u at hlanes
  have hchannels : u.channels = s.channels := by rw [← hu]; rfl
  have hout : u.outstanding = s.outstanding := by rw [← hu]; rfl
  have huntimed : ∀ m : Fin 4, u.lanes[m].untimed = s.lanes[m].untimed ∧ u.lanes[m].tx = s.lanes[m].tx := fun m => by
    rw [hlanes]
    split
    · rename_i hm; rw [hm]; exact ⟨rfl, rfl⟩
    · exact ⟨rfl, rfl⟩
  have htimed : ∀ m : Fin 4, ∀ x ∈ u.lanes[m].timed, x ∈ s.lanes[m].timed ∨ (m = slotLane e.slot ∧ x = e) :=
    fun m x hx => by
      rw [hlanes] at hx
      split at hx
      · rename_i hm
        rw [hm]
        rcases List.mem_append.1 hx with hold | hnew
        · exact .inl hold
        · exact .inr ⟨rfl, List.mem_singleton.1 hnew⟩
      · exact .inl hx
  refine ⟨⟨fun m x hx => ?_, fun m => ?_, fun m x hx => ?_⟩, fun m x hx => ?_, fun m => ?_, fun m x hx => ?_,
    fun t r hr => ?_, fun m x hx => ?_, fun m x hx => ?_⟩
  · rcases htimed m x hx with hold | ⟨hm, rfl⟩
    · exact hs.timed.onLane m x hold
    · exact hm.symm
  · rw [hlanes]
    split
    · dsimp only
      rw [List.map_append, List.nodup_append]
      refine ⟨hs.timed.once _, List.nodup_singleton _, fun a ha b hb hab => ?_⟩
      obtain ⟨x, hx, rfl⟩ := List.mem_map.1 ha
      exact hnew x hx (hab.trans (List.mem_singleton.1 hb))
    · exact hs.timed.once m
  · rw [hchannels]
    rcases htimed m x hx with hold | ⟨-, rfl⟩
    · exact hs.timed.kind m x hold
    · exact hkind
  · rw [(huntimed m).1] at hx
    exact hs.untimedOn m x hx
  · rw [(huntimed m).1]
    exact hs.untimedOnce m
  · rw [(huntimed m).1] at hx
    rw [hchannels, hout, (huntimed m).2]
    exact hs.untimed m x hx
  · rw [hout] at hr
    rw [hchannels]
    exact hs.out t r hr
  · rw [(huntimed m).2] at hx
    exact hs.txOn m x hx
  · rw [(huntimed m).2] at hx
    rw [hchannels, hout]
    exact hs.tx m x hx

/-- R142, R158: the HALT of a slot that halts joins the tail, where no HALT of it waits, is out or on the line. -/
theorem appendUntimed {s : State} (hs : TrafficConsistent s) {e : HaltEntry}
    (hhalting : s.channels[e.slot].state = .halting)
    (hnew : ∀ x ∈ s.lanes[slotLane e.slot].untimed, x.slot ≠ e.slot)
    (hrecord : ∀ r, s.outstanding[e.slot] = some r → r.kind ≠ .halt)
    (hline : ∀ x, s.lanes[slotLane e.slot].tx = some x → x.enters = true → x.frame.slot = e.slot →
      x.frame.sentKind ≠ .halt) :
    TrafficConsistent (Machine.setLane (slotLane e.slot) { s.lanes[slotLane e.slot] with
      untimed := s.lanes[slotLane e.slot].untimed ++ [e] } s) := by
  have hlanes := fun m : Fin 4 => setLane_lanes_get (slotLane e.slot) m { s.lanes[slotLane e.slot] with
    untimed := s.lanes[slotLane e.slot].untimed ++ [e] } s
  generalize hu : Machine.setLane (slotLane e.slot) { s.lanes[slotLane e.slot] with
    untimed := s.lanes[slotLane e.slot].untimed ++ [e] } s = u at hlanes
  have hchannels : u.channels = s.channels := by rw [← hu]; rfl
  have hout : u.outstanding = s.outstanding := by rw [← hu]; rfl
  have hrest : ∀ m : Fin 4, u.lanes[m].timed = s.lanes[m].timed ∧ u.lanes[m].tx = s.lanes[m].tx := fun m => by
    rw [hlanes]
    split
    · rename_i hm; rw [hm]; exact ⟨rfl, rfl⟩
    · exact ⟨rfl, rfl⟩
  have huntimed : ∀ m : Fin 4, ∀ x ∈ u.lanes[m].untimed, x ∈ s.lanes[m].untimed ∨ (m = slotLane e.slot ∧ x = e) :=
    fun m x hx => by
      rw [hlanes] at hx
      split at hx
      · rename_i hm
        rw [hm]
        rcases List.mem_append.1 hx with hold | hnew
        · exact .inl hold
        · exact .inr ⟨rfl, List.mem_singleton.1 hnew⟩
      · exact .inl hx
  refine ⟨⟨fun m x hx => ?_, fun m => ?_, fun m x hx => ?_⟩, fun m x hx => ?_, fun m => ?_, fun m x hx => ?_,
    fun t r hr => ?_, fun m x hx => ?_, fun m x hx => ?_⟩
  · rw [(hrest m).1] at hx
    exact hs.timed.onLane m x hx
  · rw [(hrest m).1]
    exact hs.timed.once m
  · rw [(hrest m).1] at hx
    rw [hchannels]
    exact hs.timed.kind m x hx
  · rcases huntimed m x hx with hold | ⟨hm, rfl⟩
    · exact hs.untimedOn m x hold
    · exact hm.symm
  · rw [hlanes]
    split
    · dsimp only
      rw [List.map_append, List.nodup_append]
      refine ⟨hs.untimedOnce _, List.nodup_singleton _, fun a ha b hb hab => ?_⟩
      obtain ⟨x, hx, rfl⟩ := List.mem_map.1 ha
      exact hnew x hx (hab.trans (List.mem_singleton.1 hb))
    · exact hs.untimedOnce m
  · rw [hchannels, hout, (hrest m).2]
    rcases huntimed m x hx with hold | ⟨rfl, rfl⟩
    · exact hs.untimed m x hold
    · exact ⟨hhalting, hrecord, hline⟩
  · rw [hout] at hr
    rw [hchannels]
    exact hs.out t r hr
  · rw [(hrest m).2] at hx
    exact hs.txOn m x hx
  · rw [(hrest m).2] at hx
    rw [hchannels, hout]
    exact hs.tx m x hx

theorem flushTimed_lanes_get (t : Fin 96) (l : Fin 4) (s : State) : (Machine.flushTimed t s).lanes[l] =
    if l = slotLane t then { s.lanes[slotLane t] with
      timed := s.lanes[slotLane t].timed.filter (fun e => e.slot ≠ t) } else s.lanes[l] :=
  setLane_lanes_get _ _ _ _

/-- R151: after a flush no timed entry of the slot waits. -/
theorem not_mem_flushTimed {s : State} (hs : TrafficConsistent s) {t : Fin 96} {l : Fin 4} {e : TimedEntry}
    (he : e ∈ (Machine.flushTimed t s).lanes[l].timed) : e.slot ≠ t := by
  rw [flushTimed_lanes_get] at he
  split at he
  · simpa using (List.mem_filter.1 he).2
  · rename_i hl
    exact fun het => hl (het ▸ (hs.timed.onLane l e he).symm)

/-- R69, R156: an entry joins only where it goes with its channel, in the place of an older one of its slot. -/
theorem handOver (e : TimedEntry) (s : State) (hs : TrafficConsistent s) : TrafficConsistent (handOver e s) := by
  unfold Machine.handOver
  split
  · rename_i hkind
    refine laneChoose _ ?_
    have hflushed := hs.flushTimed e.slot
    have hjoined := hflushed.appendTimed (e := e) hkind fun x hx => hs.not_mem_flushTimed hx
    rw [flushTimed_lanes_get, if_pos rfl] at hjoined
    unfold Machine.flushTimed at hjoined
    dsimp only at hjoined
    rw [setLane_setLane] at hjoined
    unfold joinTimed
    dsimp only
    split
    · exact hjoined.counts ((incr_only _ _).trans (raise_only _ _ _))
    · exact hjoined
  · exact hs

/-- R142: a serving channel halts, its timed entry flushed: what is out or on the line for it is no HALT. -/
theorem toHalting {s : State} (hs : TrafficConsistent s) {t : Fin 96} (hserving : s.channels[t].serving = true)
    (hnone : ∀ l : Fin 4, ∀ e ∈ s.lanes[l].timed, e.slot ≠ t) :
    TrafficConsistent (Machine.setChannel t (Channel.at .halting) s) := by
  have hnothalting : s.channels[t].state ≠ .halting := by
    rcases (Channel.serving_iff _).1 hserving with h | h <;> rw [h] <;> decide
  have hget := fun u : Fin 96 => setChannel_channels_get t u (Channel.at .halting) s
  have hfits : ∀ (u : Fin 96) k, FrameFits k s.channels[u] →
      FrameFits k (Machine.setChannel t (Channel.at .halting) s).channels[u] := fun u k hk => by
    rw [hget]
    split
    · rename_i hu
      subst hu
      rcases hk with ⟨-, hhalting⟩ | ⟨hkind, -⟩
      · exact absurd hhalting hnothalting
      · exact .inr ⟨hkind, .inr rfl⟩
    · exact hk
  refine ⟨⟨hs.timed.onLane, hs.timed.once, fun l e he => ?_⟩, hs.untimedOn, hs.untimedOnce, fun l e he => ?_,
    fun u r hr => hfits u _ (hs.out u r hr), hs.txOn, fun l x hx hentering => ?_⟩
  · rw [hget, if_neg (hnone l e he)]
    exact hs.timed.kind l e he
  · obtain ⟨hhalting, hrest⟩ := hs.untimed l e he
    refine ⟨?_, hrest⟩
    rw [hget]
    split
    · rfl
    · exact hhalting
  · obtain ⟨hfree, hk⟩ := hs.tx l x hx hentering
    exact ⟨hfree, hfits _ _ hk⟩

/-- R142: the HALT entry joins the queue as its channel halts. -/
theorem enterHalting {s : State} (hs : TrafficConsistent s) {t : Fin 96} (hserving : s.channels[t].serving = true) :
    TrafficConsistent (enterHalting t s) := by
  have hhalting := (hs.flushTimed t).toHalting hserving fun l e he => hs.not_mem_flushTimed he
  have hstate : s.channels[t].state ≠ .halting := by
    rcases (Channel.serving_iff _).1 hserving with h | h <;> rw [h] <;> decide
  have hnothalt : ∀ k, FrameFits k s.channels[t] → k ≠ .halt := by
    rintro k (⟨-, h⟩ | ⟨h, -⟩)
    · exact absurd h hstate
    · exact h
  have huntimed : ∀ l : Fin 4, (Machine.flushTimed t s).lanes[l].untimed = s.lanes[l].untimed ∧
      (Machine.flushTimed t s).lanes[l].tx = s.lanes[l].tx := fun l => by
    rw [flushTimed_lanes_get]
    split
    · rename_i hl; rw [hl]; exact ⟨rfl, rfl⟩
    · exact ⟨rfl, rfl⟩
  have happended := hhalting.appendUntimed (e := ⟨t, s.seq, false⟩) (by rw [setChannel_get]; rfl)
    (fun x hx hslot => ?_) (fun r hr => hnothalt _ (hs.out t r hr)) fun x hx hentering hslot => ?_
  · rw [enterHalting_eq]
    refine laneChoose _ ?_
    rw [setChannel_lanes, flushTimed_lanes_get, if_pos rfl] at happended
    unfold Machine.flushTimed at happended
    dsimp only at happended
    have hcomm : ∀ k : Lane, Machine.setLane (slotLane t) k (Machine.setChannel t (Channel.at .halting)
        (Machine.setLane (slotLane t) { s.lanes[slotLane t] with
          timed := s.lanes[slotLane t].timed.filter (fun e => e.slot ≠ t) } s)) =
        Machine.setLane (slotLane t) k (Machine.setChannel t ⟨.halting, 0, none⟩ s) := fun k =>
      setLane_setLane _ _ _ (Machine.setChannel t ⟨.halting, 0, none⟩ s)
    rw [hcomm] at happended
    exact happended
  · have hold : x ∈ s.lanes[slotLane t].untimed := (huntimed (slotLane t)).1 ▸ hx
    have hhalting' := (hs.untimed _ x hold).1
    simp only [show x.slot = t from hslot] at hhalting'
    exact hstate hhalting'
  · have hold : s.lanes[slotLane t].tx = some x := (huntimed (slotLane t)).2 ▸ hx
    have hfits := (hs.tx _ x hold hentering).2
    simp only [show x.frame.slot = t from hslot] at hfits
    exact hnothalt _ hfits

theorem passClosed : PassClosed TrafficConsistent where
  pass _ _ hs := hs.of_eq rfl rfl rfl
  overrun s hs := hs.counts (raise_only _ _ s)
  count i s hs := hs.counts (incr_only i s)
  parity ws s hs := hs.counts (checkParity_only .h ws s)
  handOver := handOver
  request b op s hs := by rw [request_only b op s]; exact hs.of_eq rfl rfl rfl
  apply _ hs := hs.of_eq rfl rfl rfl
  clear _ hs := hs.of_eq rfl rfl rfl
  push _ hs := hs.of_eq rfl rfl rfl
  expire s _ hs := by
    refine hs.mono rfl (fun u r hr => hr) (fun l => ?_) (fun l => ?_) fun l x hx => ⟨x, ?_, rfl, id⟩
    all_goals unfold Machine.expire at *
    · rw [markAged_lanes_get]
    · rw [markAged_lanes_get, List.map_map]
      exact List.Sublist.refl _
    · rw [markAged_lanes_get] at hx
      exact hx

theorem channel {c : Instr} (hfamily : family c = .channel) (s : State) (hs : TrafficConsistent s) :
    TrafficConsistent (effect c s) := by
  have hphase : ∀ f ph u, TrafficConsistent u → TrafficConsistent (setPhase f ph u) :=
    fun f ph u hu => hu.of_eq rfl rfl rfl
  have hresting : ∀ (t : Fin 96) c, s.channels[t].state = .off ∨ s.channels[t].state = .halted ∨
      s.channels[t].state = .retired → TrafficConsistent (Machine.setChannel t c s) := fun t c h => by
    refine hs.setChannel (.inr (hs.quiet_of_resting ?_ ?_ _))
    · rw [← Bool.not_eq_true, Channel.serving_iff]
      rcases h with h | h | h <;> rw [h] <;> decide
    · rcases h with h | h | h <;> rw [h] <;> decide
  cases c with
  | startSlot =>
    refine onTaken_keeps hs fun f _ => withArg_keeps (fun _ => hphase f _ s hs) fun t => ?_
    rcases startChannel_cases t f s with ⟨r, -, h⟩ | ⟨hoff, -, h⟩ | ⟨hhalted, h⟩ <;> rw [h]
    · exact hphase f _ s hs
    · exact hphase f _ _ (hresting t _ (.inl hoff))
    · exact hphase f _ _ ((hresting t _ (.inr (.inl hhalted))).counts (raise_only _ _ _))
  | haltSlot =>
    refine onTaken_keeps hs fun f _ => withArg_keeps (fun _ => hphase f _ s hs) fun t => ?_
    rcases haltChannel_cases t f s with ⟨r, -, h⟩ | h | ⟨hserving, -, h⟩ <;> rw [h]
    · exact hphase f _ s hs
    · exact hphase f _ s hs
    · exact hphase f _ _ (hs.enterHalting hserving)
  | releaseSlot =>
    refine onTaken_keeps hs fun f _ => withArg_keeps (fun _ => hphase f _ s hs) fun t => ?_
    rcases releaseChannel_cases t f s with ⟨r, -, h⟩ | h | ⟨hrest, h⟩ <;> rw [h]
    · exact hphase f _ s hs
    · exact hphase f _ s hs
    · exact hphase f _ _ (hresting t _ (.inr hrest))
  | laneReset =>
    exact onTaken_keeps hs fun f _ => withArg_keeps (fun _ => hphase f _ s hs) fun l =>
      laneSteps.actLaneReset l f s hs hphase
  | _ => cases hfamily

/-- Nothing waits, nothing is out, no frame on a line enters a record, and each frame is of its lane's slots. -/
theorem of_empty {s : State} (hout : ∀ t : Fin 96, s.outstanding[t] = none)
    (hlanes : ∀ l : Fin 4, s.lanes[l].timed = [] ∧ s.lanes[l].untimed = [] ∧
      ∀ x, s.lanes[l].tx = some x → x.enters = false ∧ slotLane x.frame.slot = l) : TrafficConsistent s := by
  have htimed : ∀ (l : Fin 4) e, e ∉ s.lanes[l].timed := fun l e => by rw [(hlanes l).1]; exact List.not_mem_nil
  have huntimed : ∀ (l : Fin 4) e, e ∉ s.lanes[l].untimed := fun l e => by
    rw [(hlanes l).2.1]; exact List.not_mem_nil
  refine ⟨⟨fun l e he => absurd he (htimed l e), fun l => ?_, fun l e he => absurd he (htimed l e)⟩,
    fun l e he => absurd he (huntimed l e), fun l => ?_, fun l e he => absurd he (huntimed l e), fun t r hr => ?_,
    fun l x hx => ((hlanes l).2.2 x hx).2, fun l x hx hentering => ?_⟩
  · rw [(hlanes l).1]; exact List.nodup_nil
  · rw [(hlanes l).2.1]; exact List.nodup_nil
  · rw [hout] at hr
    cases hr
  · rw [((hlanes l).2.2 x hx).1] at hentering
    cases hentering

theorem restartedLanes_get (s : State) (l : Fin 4) : (restartedLanes s)[l] = { s.lanes[l] with
    timed := [], untimed := [], tx := s.lanes[l].tx.map (fun x => { x with enters := false }) } :=
  mapEntries_getElem _ s.lanes l.1 l.2

theorem restart (f : MgmtFrame) (s : State) (hs : TrafficConsistent s) : TrafficConsistent (actRestart f s) := by
  refine actRestart_keeps (Q := TrafficConsistent) ?_ passClosed.restartPass fun u hu => ?_
  · unfold restarted
    refine of_empty (fun t => replicate_get _ t) fun l => ?_
    have hget := restartedLanes_get s l
    refine ⟨by dsimp only; rw [hget], by dsimp only; rw [hget], fun x hx => ?_⟩
    dsimp only at hx
    rw [hget] at hx
    obtain ⟨y, hy, rfl⟩ := Option.map_eq_some_iff.1 hx
    exact ⟨rfl, hs.txOn l y hy⟩
  · rw [restartDump_only u]; exact hu.of_eq rfl rfl rfl

theorem effect (c : Instr) (s : State) (hs : TrafficConsistent s) : TrafficConsistent (effect c s) := by
  cases h : family c with
  | reset => rw [effect_of_reset h]; exact hs
  | port => rw [effect_onlyPorts h s]; exact hs.of_eq rfl rfl rfl
  | lane => exact laneSteps.effect h s hs
  | pass => exact passClosed.effect h s hs
  | storeUse => rw [effect_onlyStoreUse h s]; exact hs.of_eq rfl rfl rfl
  | setting => rw [effect_onlySettings h s]; exact hs.of_eq rfl rfl rfl
  | reading => rw [effect_onlyReads h s]; exact hs.of_eq rfl rfl rfl
  | tapAccess => rw [effect_onlyTapAccess h s]; exact hs.of_eq rfl rfl rfl
  | portWrite => rw [effect_onlyPortWrite h s]; exact hs.of_eq rfl rfl rfl
  | channel => exact channel h s hs
  | restart => exact effect_restart_keeps h hs fun f _ => restart f s hs
  | reply => rw [effect_onlyReturn h s]; exact hs.of_eq rfl rfl rfl

theorem reset : TrafficConsistent State.reset :=
  of_empty reset_outstanding fun l => by
    rw [reset_lanes]
    exact ⟨rfl, rfl, fun x hx => by cases hx⟩

theorem held (s : State) : TrafficConsistent (heldInReset s) :=
  of_empty reset_outstanding fun l => by
    rw [heldInReset_lanes]
    exact ⟨rfl, rfl, fun x hx => by cases hx⟩

theorem release (s : State) (hs : TrafficConsistent s) : TrafficConsistent (releaseReset s) := by
  refine hs.mono rfl (fun u r hr => hr) (fun l => ?_) (fun l => ?_) fun l x hx => ⟨x, ?_, rfl, id⟩
  · rw [releaseReset_lanes]
  · rw [releaseReset_lanes]
  · rw [releaseReset_lanes] at hx
    exact hx

theorem step {s t : State} (h : step s = .next t) (hs : TrafficConsistent s) : TrafficConsistent t :=
  step_keeps_of_effect (fun _ _ hs => hs.of_eq rfl rfl rfl) held release
    (fun s hs => by rw [returnChoose_only s]; exact hs.of_eq rfl rfl rfl) effect h hs

end TrafficConsistent

/-- Settles O58: the traffic, and the channels with the slots they live in, are kept by every command's effect. -/
theorem stepKeepsTrafficConsistent : Obligations.StepKeepsTrafficConsistent := by
  unfold Obligations.StepKeepsTrafficConsistent
  intro s t h
  refine ⟨TrafficConsistent.step h, ?_⟩
  rw [← channelsFit_iff, ← channelsFit_iff]
  exact ChannelsFit.step h

end Machine
end Sys2Proof

namespace Sys2Proof
namespace Machine

/-! ### The ports (R25, R32, R37, R39, R41) -/

theorem setPort_ports_get (p u : Fin 8) (q : Port) (s : State) :
    (setPort p q s).ports[u] = if u = p then q else s.ports[u] := by
  by_cases hu : u = p
  · rw [if_pos hu, hu]
    exact setPort_get p q s
  · rw [if_neg hu]
    exact setPort_get_ne p u q s hu

theorem Port.active_iff (q : Port) : q.active = true ↔ q.mode = .qualifying ∨ q.mode = .passing := by
  simp [Port.active]

theorem Port.active_congr {q r : Port} (h : q.mode = r.mode) : q.active = r.active := by
  unfold Port.active
  rw [h]

namespace PortsLegal

theorem of_eq {s t : State} (hs : PortsLegal s) (h : t.ports = s.ports) : PortsLegal t :=
  ⟨by rw [h]; exact hs.idle, by rw [h]; exact hs.active, by rw [h]; exact hs.s0⟩

theorem counts {s u : State} (h : OnlyCounts s u) (hs : PortsLegal s) : PortsLegal u := by
  rw [h]; exact hs.of_eq rfl

/-- A port whose timers run becomes, or stays, QUALIFYING or PASSING. -/
theorem setActive {s : State} (hs : PortsLegal s) {p : Fin 8} {q : Port} (hactive : q.active = true)
    (hwatchdog : q.watchdog.isSome = true) (hgate : q.gate.isSome = true) : PortsLegal (setPort p q s) := by
  refine ⟨fun u hu => ?_, fun u hu => ?_, ?_⟩
  · rw [setPort_ports_get] at hu ⊢
    split at hu
    · rw [hactive] at hu; cases hu
    · rename_i hne
      rw [if_neg hne]
      exact hs.idle u hu
  · rw [setPort_ports_get] at hu ⊢
    split at hu
    · rename_i heq
      rw [if_pos heq]
      exact ⟨hwatchdog, hgate⟩
    · rename_i hne
      rw [if_neg hne]
      exact hs.active u hu
  · change (setPort p q s).ports[(0 : Fin 8)].mode ≠ .off
    rw [setPort_ports_get]
    split
    · rcases (Port.active_iff q).1 hactive with h | h <;> rw [h] <;> decide
    · exact hs.s0

/-- An active port changed in nothing that stops a timer or leaves its state. -/
theorem setKept {s : State} (hs : PortsLegal s) {p : Fin 8} {q : Port} (hactive : s.ports[p].active = true)
    (hmode : q.mode = s.ports[p].mode) (hwatchdog : s.ports[p].watchdog.isSome = true → q.watchdog.isSome = true)
    (hgate : s.ports[p].gate.isSome = true → q.gate.isSome = true) : PortsLegal (setPort p q s) := by
  obtain ⟨hw, hg⟩ := hs.active p hactive
  exact hs.setActive ((Port.active_congr hmode).trans hactive) (hwatchdog hw) (hgate hg)

theorem portLeave {s : State} (hs : PortsLegal s) {p : Fin 8} {m : PortMode} (hm : m = .dark ∨ (m = .off ∧ p ≠ 0)) :
    PortsLegal (portLeave p m s) := by
  have hidle : ∀ q : Port, (q.cleared m).active = false := fun q => by
    rcases hm with rfl | ⟨rfl, -⟩ <;> rfl
  have hcleared : PortsLegal (setPort p (s.ports[p].cleared m) s) := by
    refine ⟨fun u hu => ?_, fun u hu => ?_, ?_⟩
    · rw [setPort_ports_get] at hu ⊢
      split
      · exact ⟨rfl, rfl, rfl, rfl, rfl, rfl, rfl⟩
      · rename_i hne
        rw [if_neg hne] at hu
        exact hs.idle u hu
    · rw [setPort_ports_get] at hu ⊢
      split at hu
      · rw [hidle] at hu; cases hu
      · rename_i hne
        rw [if_neg hne]
        exact hs.active u hu
    · change (setPort p (s.ports[p].cleared m) s).ports[(0 : Fin 8)].mode ≠ .off
      rw [setPort_ports_get]
      split
      · rename_i hzero
        rcases hm with rfl | ⟨-, hne⟩
        · exact PortMode.noConfusion
        · exact absurd hzero.symm hne
      · exact hs.s0
  unfold Machine.portLeave
  dsimp only
  split
  · exact hcleared.counts (raise_only _ _ _)
  · exact hcleared

theorem portLinkError {s : State} (hs : PortsLegal s) (p : Fin 8) : PortsLegal (portLinkError p s) := by
  unfold Machine.portLinkError
  dsimp only
  split
  · rename_i hactive
    split
    · exact hs.portLeave (.inl rfl)
    · exact hs.setKept hactive rfl id id
  · exact hs

theorem portTryPass {s : State} (hs : PortsLegal s) (p : Fin 8) : PortsLegal (portTryPass p s) := by
  unfold Machine.portTryPass
  dsimp only
  split
  · rename_i hpass
    obtain ⟨hw, hg⟩ := hs.active p ((Port.active_iff _).2 (.inl hpass.1))
    exact (hs.setActive (p := p) (q := { s.ports[p] with mode := .passing }) rfl hw hg).counts (raise_only _ _ _)
  · exact hs

theorem portRequalify {s : State} (hs : PortsLegal s) {p : Fin 8} (hactive : s.ports[p].active = true) :
    PortsLegal (portRequalify p s) := by
  obtain ⟨hw, hg⟩ := hs.active p hactive
  exact (hs.setActive (p := p) (q := { s.ports[p] with mode := .qualifying, run := 0 }) rfl hw hg).counts
    (raise_only _ _ _)

theorem portValidEffect {s : State} (hs : PortsLegal s) {p : Fin 8} (hactive : s.ports[p].active = true)
    (sample : Bool) : PortsLegal (portValidEffect p sample s) := by
  unfold Machine.portValidEffect
  dsimp only
  split
  · refine portTryPass ?_ p
    refine hs.setKept hactive rfl (fun _ => rfl) fun hg => ?_
    dsimp only [Port.startWatchdog]
    rw [Option.isSome_map]
    exact hg
  · exact hs.setKept hactive rfl (fun _ => rfl) id

theorem portDamagedEffect {s : State} (hs : PortsLegal s) (p : Fin 8) : PortsLegal (portDamagedEffect p s) := by
  unfold Machine.portDamagedEffect
  dsimp only
  split
  · rename_i hmode
    exact hs.setKept ((Port.active_iff _).2 (.inl hmode)) rfl id id
  · rename_i hmode
    split
    · exact hs.portRequalify ((Port.active_iff _).2 (.inr hmode))
    · exact hs
  · exact hs
  · exact hs

theorem portClassEffect {s : State} (hs : PortsLegal s) {p : Fin 8} (hactive : s.ports[p].active = true)
    (cls : FrameClass) (f : RxFrame) : PortsLegal (portClassEffect p cls f s) := by
  unfold Machine.portClassEffect
  cases cls with
  | valid => exact hs.portValidEffect hactive _
  | damaged | short | babble => exact hs.portDamagedEffect p
  | format => exact hs

/-- R28, R164: a delivery changes no port. -/
theorem mgmtJoin_ports (f : MgmtFrame) (s : State) : (mgmtJoin f s).ports = s.ports := by
  unfold mgmtJoin
  split
  · rfl
  · rw [raise_ports, incr_ports]

theorem portDeliver_ports (p : Fin 8) (cls : FrameClass) (f : RxFrame) (s : State) :
    (portDeliver p cls f s).ports = s.ports := by
  unfold portDeliver
  split
  · rfl
  · split
    · split <;> rfl
    · split
      · exact mgmtJoin_ports _ _
      · rfl

theorem portFrameEnd {s : State} (hs : PortsLegal s) {p : Fin 8} (hactive : s.ports[p].active = true) (f : RxFrame)
    (b : Bool) : PortsLegal (portFrameEnd p f b s) := by
  have hended : PortsLegal (setPort p { s.ports[p] with rx := none } s) := hs.setKept hactive rfl id id
  have hcounted : ∀ i j, PortsLegal (incr i (incr j (setPort p { s.ports[p] with rx := none } s))) := fun i j =>
    hended.counts ((incr_only _ _).trans (incr_only _ _))
  refine of_eq (portClassEffect (hcounted (.port p (portClass p f b).portCtr) (.port p .received)) ?_
    (portClass p f b) f) (portDeliver_ports ..)
  rw [incr_ports, incr_ports, setPort_get]
  exact hactive

theorem portOpenFrame {s : State} (hs : PortsLegal s) (p : Fin 8) : PortsLegal (portOpenFrame p s) := by
  unfold Machine.portOpenFrame
  dsimp only
  split
  · rename_i hactive
    exact hs.setKept hactive rfl id id
  · exact hs

/-- R37, R39: a port whose watchdog or gate runs is active. -/
theorem active_of_watchdog {s : State} (hs : PortsLegal s) {p : Fin 8} {n : Nat}
    (h : s.ports[p].watchdog = some n) : s.ports[p].active = true := by
  by_contra hidle
  have hnone := (hs.idle p (by simpa using hidle)).2.2.2.2.1
  rw [h] at hnone
  cases hnone

theorem active_of_gate {s : State} (hs : PortsLegal s) {p : Fin 8} {n : Nat} (h : s.ports[p].gate = some n) :
    s.ports[p].active = true := by
  by_contra hidle
  have hnone := (hs.idle p (by simpa using hidle)).2.2.2.2.2.1
  rw [h] at hnone
  cases hnone

theorem gateMeasure_mode (e : PortEntry) (q : Port) (f : Nat) :
    (gateMeasure e q f).mode = q.mode ∧ (gateMeasure e q f).watchdog = q.watchdog := by
  unfold gateMeasure
  dsimp only
  split <;> exact ⟨rfl, rfl⟩

theorem portWatchdogExpiry {s : State} (hs : PortsLegal s) (p : Fin 8) : PortsLegal (portWatchdogExpiry p s) := by
  unfold Machine.portWatchdogExpiry
  dsimp only
  split
  · exact hs
  · rename_i hwatchdog
    have hactive := hs.active_of_watchdog hwatchdog
    have hstarted : PortsLegal (setPort p (s.ports[p].startWatchdog s.portTable[p]) s) :=
      hs.setKept hactive rfl (fun _ => rfl) id
    have hstill : (setPort p (s.ports[p].startWatchdog s.portTable[p]) s).ports[p].active = true := by
      rw [setPort_get]
      exact hactive
    split
    · exact hstarted.setKept hstill rfl id id
    · exact hstarted.portRequalify hstill
    · exact hstarted
    · exact hstarted

theorem portRateGateEnd {s : State} (hs : PortsLegal s) (p : Fin 8) : PortsLegal (portRateGateEnd p s) := by
  unfold Machine.portRateGateEnd
  dsimp only
  split
  · exact hs
  · rename_i f hgate
    have hactive := hs.active_of_gate hgate
    obtain ⟨hmode, hwatchdog⟩ := gateMeasure_mode s.portTable[p] s.ports[p] f
    have hmeasured : PortsLegal (setPort p { gateMeasure s.portTable[p] s.ports[p] f with gate := some 0 } s) :=
      hs.setKept hactive hmode (fun h => by dsimp only; rw [hwatchdog]; exact h) fun _ => rfl
    split
    · exact hmeasured.portTryPass p
    · split
      · refine hmeasured.portRequalify ?_
        rw [setPort_get]
        exact (Port.active_congr hmode).trans hactive
      · exact hmeasured
    · exact hmeasured
    · exact hmeasured

theorem port {c : Instr} (hfamily : family c = .port) (s : State) (hs : PortsLegal s) : PortsLegal (effect c s) := by
  cases c with
  | portLinkLock p =>
    change PortsLegal (portLinkLock p s)
    unfold portLinkLock
    dsimp only
    split
    · exact hs.setActive rfl rfl rfl
    · exact hs
  | portLossOfLock p =>
    change PortsLegal (portLossOfLock p s)
    unfold portLossOfLock
    split
    · exact hs.portLeave (.inl rfl)
    · exact hs
  | portSymbolError p =>
    change PortsLegal (portSymbolError p s)
    unfold portSymbolError
    dsimp only
    split
    · rename_i hactive
      refine portLinkError ?_ p
      exact hs.setKept hactive rfl id id
    · exact hs
  | portWordReceived p w =>
    change PortsLegal (portWordReceived p w s)
    unfold portWordReceived
    dsimp only
    split
    · rename_i hactive
      exact hs.setKept hactive rfl id id
    · exact hs
  | portStartMark p =>
    change PortsLegal (portStartMark p s)
    unfold portStartMark
    dsimp only
    split
    · rename_i hactive
      split
      · exact hs.portOpenFrame p
      · exact ((hs.portFrameEnd hactive _ _).portLinkError p).portOpenFrame p
    · exact hs
  | portEndMark p =>
    change PortsLegal (portEndMark p s)
    unfold portEndMark
    dsimp only
    split
    · rename_i hactive
      split
      · exact hs.portLinkError p
      · exact hs.portFrameEnd hactive _ _
    · exact hs
  | portWatchdogExpiry p => exact hs.portWatchdogExpiry p
  | portRateGateEnd p => exact hs.portRateGateEnd p
  | _ => cases hfamily

theorem enableChanges (old : Vector PortEntry 8) (ps : List (Fin 8)) {s : State} (hs : PortsLegal s) :
    PortsLegal (ps.foldl (fun u p => enableChange old p u) s) := by
  induction ps generalizing s with
  | nil => exact hs
  | cons p ps ih =>
    refine ih ?_
    change PortsLegal (enableChange old p s)
    unfold enableChange
    split
    · rename_i hchange
      refine hs.portLeave ?_
      split
      · exact .inl rfl
      · exact .inr ⟨rfl, hchange.1⟩
    · exact hs

theorem portWrite {c : Instr} (hfamily : family c = .portWrite) (s : State) (hs : PortsLegal s) :
    PortsLegal (effect c s) := by
  cases c with
  | mwritePort =>
    refine onTaken_keeps hs fun f _ => ?_
    rcases writePort_cases f s with ⟨r, -, h⟩ | ⟨-, -, h⟩ <;> rw [h]
    · exact hs.of_eq rfl
    · rw [applyPort_eq]
      have htables : PortsLegal (portTables f s) := hs.of_eq rfl
      exact (enableChanges s.portTable _ htables).of_eq rfl
  | portReset =>
    refine onTaken_keeps hs fun f _ => withArg_keeps (fun _ => hs.of_eq rfl) fun p => ?_
    unfold actPortReset
    split
    · exact hs.of_eq rfl
    · exact (hs.portLeave (p := p) (.inl rfl)).of_eq rfl
  | _ => cases hfamily

theorem restart (f : MgmtFrame) (s : State) (hs : PortsLegal s) : PortsLegal (actRestart f s) := by
  refine actRestart_keeps (Q := PortsLegal) ?_ (fun u hu => ?_) fun u hu => ?_
  · unfold restarted; exact hs.of_eq rfl
  · rw [restartPass_only u]; exact hu.of_eq rfl
  · rw [restartDump_only u]; exact hu.of_eq rfl

theorem effect (c : Instr) (s : State) (hs : PortsLegal s) : PortsLegal (effect c s) := by
  cases h : family c with
  | reset => rw [effect_of_reset h]; exact hs
  | port => exact port h s hs
  | lane => rw [effect_onlyTraffic h s]; exact hs.of_eq rfl
  | pass => rw [effect_onlyPass h s]; exact hs.of_eq rfl
  | storeUse => rw [effect_onlyStoreUse h s]; exact hs.of_eq rfl
  | setting => rw [effect_onlySettings h s]; exact hs.of_eq rfl
  | reading => rw [effect_onlyReads h s]; exact hs.of_eq rfl
  | tapAccess => rw [effect_onlyTapAccess h s]; exact hs.of_eq rfl
  | portWrite => exact portWrite h s hs
  | channel => rw [effect_onlyChannelAction h s]; exact hs.of_eq rfl
  | restart => exact effect_restart_keeps h hs fun f _ => restart f s hs
  | reply => rw [effect_onlyReturn h s]; exact hs.of_eq rfl

/-- R32, R201, R202: S0 in DARK and the other ports OFF, whether S0's receiver trains or not. -/
theorem of_reset {s : State} {training : Bool}
    (h : ∀ p : Fin 8, s.ports[p] = if p = 0 then Port.reset .dark training else Port.reset .off false) :
    PortsLegal s := by
  refine ⟨fun p _ => ?_, fun p hp => ?_, ?_⟩
  · rw [h]
    split <;> exact ⟨rfl, rfl, rfl, rfl, rfl, rfl, rfl⟩
  · rw [h] at hp
    split at hp <;> cases hp
  · have hzero := h 0
    rw [if_pos rfl] at hzero
    change s.ports[(0 : Fin 8)].mode ≠ .off
    rw [hzero]
    exact PortMode.noConfusion

theorem reset : PortsLegal State.reset := of_reset reset_ports

theorem release (s : State) (hs : PortsLegal s) : PortsLegal (releaseReset s) := by
  have hsame : ∀ p : Fin 8, (releaseReset s).ports[p] =
      { s.ports[p] with training := (releaseReset s).ports[p].training } := fun p => by
    rw [releaseReset_ports]
    split
    · rename_i hp; rw [hp]; rfl
    · rfl
  refine ⟨fun p hp => ?_, fun p hp => ?_, ?_⟩
  · rw [hsame] at hp ⊢
    exact hs.idle p hp
  · rw [hsame] at hp ⊢
    exact hs.active p hp
  · change (releaseReset s).ports[(0 : Fin 8)].mode ≠ .off
    rw [hsame]
    exact hs.s0

theorem step {s t : State} (h : step s = .next t) (hs : PortsLegal s) : PortsLegal t :=
  step_keeps_of_effect (fun _ _ hs => hs.of_eq rfl) (fun s => of_reset (heldInReset_ports s)) release
    (fun s hs => by rw [returnChoose_only s]; exact hs.of_eq rfl) effect h hs

end PortsLegal

/-! ### The banks (R79) -/

theorem countTapWrites_bank (n : Nat) (s : State) (b : BankId) : (countTapWrites n s).bank b = s.bank b := by
  unfold countTapWrites
  split
  · rfl
  · cases b <;> rfl

/-- What is taken on one bank leaves the other. -/
theorem takeOp_bank_ne (b c : BankId) (op : BankOp) (s : State) (h : c ≠ b) : (takeOp b op s).bank c = s.bank c := by
  unfold takeOp
  cases op with
  | adaptUpdate block deltas =>
    dsimp only
    split
    · rw [countTapWrites_bank, bank_setBank_ne _ _ _ _ h]
      cases c <;> rfl
    · exact bank_setBank_ne _ _ _ _ h
  | mgmtWrite writes =>
    dsimp only
    rw [countTapWrites_bank, bank_setBank_ne _ _ _ _ h]
    cases c <;> rfl
  | passRead _ _ => exact bank_setBank_ne _ _ _ _ h
  | dumpRead _ => exact bank_setBank_ne _ _ _ _ h
  | mgmtRead _ _ _ => exact bank_setBank_ne _ _ _ _ h

theorem Bank.wait_busy (k : Bank) (op : BankOp) : (k.wait op).busy = k.busy := by cases op <;> rfl

theorem Bank.free_iff (k : Bank) : k.free = true ↔ k.busy = none ∧ k.waitPass = none ∧ k.waitAdapt = none ∧
    k.waitDump = none ∧ k.waitMgmt = none := by
  simp [Bank.free, and_assoc]

namespace BanksBusy

theorem of_eq {s t : State} (hs : BanksBusy s) (he : t.bankE = s.bankE) (ho : t.bankO = s.bankO) : BanksBusy t := by
  intro b
  have hbank : t.bank b = s.bank b := by cases b <;> assumption
  rw [hbank]
  exact hs b

theorem takeOp {b : BankId} {op : BankOp} {s : State}
    (hs : ∀ c, c ≠ b → (s.bank c).busy = none → (s.bank c).free = true) : BanksBusy (takeOp b op s) := by
  intro c hc
  by_cases hb : c = b
  · subst hb
    obtain ⟨u, hu, -⟩ := takeOp_busy c op s
    rw [hu] at hc
    cases hc
  · rw [takeOp_bank_ne _ _ _ _ hb] at hc ⊢
    exact hs c hb hc

theorem request (b : BankId) (op : BankOp) (s : State) (hs : BanksBusy s) : BanksBusy (request b op s) := by
  unfold Machine.request
  split
  · exact takeOp fun c _ => hs c
  · rename_i hbusy
    intro c hc
    by_cases hb : c = b
    · subst hb
      rw [bank_setBank, Bank.wait_busy] at hc
      exact absurd (hs c hc) hbusy
    · rw [bank_setBank_ne _ _ _ _ hb] at hc ⊢
      exact hs c hc

theorem takeNext (b : BankId) (s : State) (hs : BanksBusy s) : BanksBusy (takeNext b s) := by
  have hothers : ∀ (k : Bank) c, c ≠ b → ((s.setBank b k).bank c).busy = none → ((s.setBank b k).bank c).free = true :=
    fun k c hc => by
      rw [bank_setBank_ne _ _ _ _ hc]
      exact hs c
  unfold Machine.takeNext
  dsimp only
  split
  · exact takeOp (hothers _)
  · exact takeOp (hothers _)
  · exact takeOp (hothers _)
  · exact takeOp (hothers _)
  · rename_i hpass hadapt hdump hmgmt
    intro c hc
    by_cases hb : c = b
    · subst hb
      rw [bank_setBank]
      exact (Bank.free_iff _).2 ⟨rfl, hpass, hadapt, hdump, hmgmt⟩
    · exact hothers _ c hb hc

theorem returnClosed : ReturnClosed BanksBusy where
  ret _ _ hs := hs.of_eq rfl rfl
  mgmt _ _ hs := hs.of_eq rfl rfl
  dump _ _ hs := hs.of_eq rfl rfl
  read _ hs := request _ _ _ hs
  taken _ _ _ _ hs := hs.of_eq rfl rfl
  done s hs := hs.of_eq (raise_bankE ..) (raise_bankO ..)

theorem passClosed : PassClosed BanksBusy where
  pass _ _ hs := hs.of_eq rfl rfl
  overrun _ hs := hs.of_eq (raise_bankE ..) (raise_bankO ..)
  count _ _ hs := hs.of_eq (incr_bankE ..) (incr_bankO ..)
  parity _ _ hs := hs.of_eq (checkParity_bankE ..) (checkParity_bankO ..)
  handOver e s hs := by rw [handOver_only e s]; exact hs.of_eq rfl rfl
  request := request
  apply _ hs := hs.of_eq rfl rfl
  clear _ hs := hs.of_eq rfl rfl
  push _ hs := hs.of_eq rfl rfl
  expire _ _ hs := hs.of_eq rfl rfl

theorem storeUseClosed : StoreUseClosed BanksBusy where
  count _ _ hs := hs.of_eq (incr_bankE ..) (incr_bankO ..)
  parity _ _ _ hs := hs.of_eq (checkParity_bankE ..) (checkParity_bankO ..)
  request := request
  next b s _ := takeNext b s
  report _ _ _ _ hs := hs.of_eq rfl rfl
  engine _ _ hs := hs.of_eq rfl rfl
  adapted _ _ _ hs := hs.of_eq rfl rfl
  gain _ _ hs := hs.of_eq rfl rfl
  comp _ _ _ hs := hs.of_eq rfl rfl
  dump := returnClosed.deliverDump
  phase _ _ _ _ _ hs := hs.of_eq rfl rfl

theorem requestWrites (f : MgmtFrame) (bs : List Nat) (s : State) (hs : BanksBusy s) :
    BanksBusy (requestWrites f bs s) := by
  induction bs generalizing s with
  | nil => exact hs
  | cons b bs ih => exact ih _ (request _ _ _ hs)

theorem tapAccess {c : Instr} (hfamily : family c = .tapAccess) (s : State) (hs : BanksBusy s) :
    BanksBusy (effect c s) := by
  have hphase : ∀ f ph, BanksBusy (setPhase f ph s) := fun f ph => hs.of_eq rfl rfl
  cases c with
  | mwriteTaps =>
    refine onTaken_keeps hs fun f _ => ?_
    rcases writeTaps_cases f s with ⟨r, -, h⟩ | ⟨-, h⟩ <;> rw [h]
    · exact hphase f _
    · exact requestWrites _ _ _ (hphase f _)
  | mreadTaps =>
    refine onTaken_keeps hs fun f _ => ?_
    rcases readTaps_cases f s with ⟨r, -, h⟩ | h <;> rw [h]
    · exact hphase f _
    · unfold requestReads
      dsimp only
      split
      · exact request _ _ _ (hphase f _)
      · exact request _ _ _ (request _ _ _ (hphase f _))
  | _ => cases hfamily

theorem restart (f : MgmtFrame) (s : State) (hs : BanksBusy s) : BanksBusy (actRestart f s) :=
  actRestart_keeps (by unfold restarted; exact hs.of_eq rfl rfl) passClosed.restartPass returnClosed.restartDump

theorem effect (c : Instr) (s : State) (hs : BanksBusy s) : BanksBusy (effect c s) := by
  cases h : family c with
  | reset => rw [effect_of_reset h]; exact hs
  | port => rw [effect_onlyPorts h s]; exact hs.of_eq rfl rfl
  | lane => rw [effect_onlyTraffic h s]; exact hs.of_eq rfl rfl
  | pass => exact passClosed.effect h s hs
  | storeUse => exact storeUseClosed.effect h s hs
  | setting => rw [effect_onlySettings h s]; exact hs.of_eq rfl rfl
  | reading => rw [effect_onlyReads h s]; exact hs.of_eq rfl rfl
  | tapAccess => exact tapAccess h s hs
  | portWrite => rw [effect_onlyPortWrite h s]; exact hs.of_eq rfl rfl
  | channel => rw [effect_onlyChannelAction h s]; exact hs.of_eq rfl rfl
  | restart => exact effect_restart_keeps h hs fun f _ => restart f s hs
  | reply => exact returnClosed.effect h s hs

theorem reset : BanksBusy State.reset := fun b _ => by cases b <;> rfl

theorem step {s t : State} (h : step s = .next t) (hs : BanksBusy s) : BanksBusy t :=
  step_keeps_of_effect (fun _ _ hs => hs.of_eq rfl rfl) (fun _ => reset.of_eq rfl rfl) (fun _ hs => hs.of_eq rfl rfl)
    returnClosed.returnChoose effect h hs

end BanksBusy

end Machine
end Sys2Proof

namespace Sys2Proof
namespace Machine

/-! ### What the placing of a frame leaves (R165, R177) -/

@[simp] theorem requestDumpRead_ret (s : State) : (requestDumpRead s).ret = s.ret := by rw [requestDumpRead_frame]
@[simp] theorem requestDumpRead_mgmt (s : State) : (requestDumpRead s).mgmt = s.mgmt := by rw [requestDumpRead_frame]
@[simp] theorem requestDumpRead_dump (s : State) : (requestDumpRead s).dump = s.dump := by rw [requestDumpRead_frame]
@[simp] theorem requestDumpRead_notices (s : State) : (requestDumpRead s).notices = s.notices := by
  rw [requestDumpRead_frame]

/-- The state with reply r in its place and the Management Unit idle. -/
def replyPlaced (r : Reply) (s : State) : State :=
  { s with ret := { s.ret with replyPlace := some r }, mgmt := .idle }

theorem placeReply_eq (r : Reply) (s : State) :
    placeReply r s = if r.startsDump then requestDumpRead (replyPlaced r s) else replyPlaced r s := rfl

@[simp] theorem placeReply_ret (r : Reply) (s : State) :
    (placeReply r s).ret = { s.ret with replyPlace := some r } := by
  rw [placeReply_eq]
  split
  · exact requestDumpRead_ret _
  · rfl

@[simp] theorem placeReply_mgmt (r : Reply) (s : State) : (placeReply r s).mgmt = .idle := by
  rw [placeReply_eq]
  split
  · exact requestDumpRead_mgmt _
  · rfl

@[simp] theorem placeReply_dump (r : Reply) (s : State) : (placeReply r s).dump = s.dump := by
  rw [placeReply_eq]
  split
  · exact requestDumpRead_dump _
  · rfl

@[simp] theorem placeReply_notices (r : Reply) (s : State) : (placeReply r s).notices = s.notices := by
  rw [placeReply_eq]
  split
  · exact requestDumpRead_notices _
  · rfl

/-- The state with dump frame d in its place, the engine finishing after the LAST one, reading after another. -/
def dumpPlaced (d : DumpFrame) (s : State) : State :=
  { s with
    ret := { s.ret with dumpPlace := some d }
    dump := if d.last then { s.dump with state := .finishing, held := none }
      else { s.dump with state := .reading, next := s.dump.next + 1, held := none } }

theorem placeDumpFrame_eq (d : DumpFrame) (s : State) :
    placeDumpFrame d s = if d.last then dumpPlaced d s else requestDumpRead (dumpPlaced d s) := by
  unfold placeDumpFrame dumpPlaced
  dsimp only
  split <;> rfl

@[simp] theorem placeDumpFrame_ret (d : DumpFrame) (s : State) :
    (placeDumpFrame d s).ret = { s.ret with dumpPlace := some d } := by
  rw [placeDumpFrame_eq]
  split
  · rfl
  · exact requestDumpRead_ret _

@[simp] theorem placeDumpFrame_mgmt (d : DumpFrame) (s : State) : (placeDumpFrame d s).mgmt = s.mgmt := by
  rw [placeDumpFrame_eq]
  split
  · rfl
  · exact requestDumpRead_mgmt _

@[simp] theorem placeDumpFrame_held (d : DumpFrame) (s : State) : (placeDumpFrame d s).dump.held = none := by
  have hplaced : (dumpPlaced d s).dump.held = none := by
    unfold dumpPlaced
    dsimp only
    split <;> rfl
  rw [placeDumpFrame_eq]
  split
  · exact hplaced
  · rw [requestDumpRead_dump]
    exact hplaced

/-! ### The return (R165, R177, R182) -/

/-- R165, R177: a reply is held only behind a full reply place, a dump frame only behind a full dump place. -/
structure PlacesHeld (s : State) : Prop where
  reply : ∀ r, s.mgmt = .holding r → s.ret.replyPlace.isSome = true
  dump : s.dump.held.isSome = true → s.ret.dumpPlace.isSome = true

theorem ReturnBusy.places {s : State} (hs : ReturnBusy s) : PlacesHeld s := ⟨hs.reply, hs.dump⟩

/-- The Management Unit holds no reply. -/
def NotHolding (s : State) : Prop := ∀ r, s.mgmt ≠ .holding r

theorem setPhase_notHolding (f : MgmtFrame) (ph : Phase) (s : State) : NotHolding (setPhase f ph s) :=
  fun _ h => by cases h

theorem NotHolding.of_eq {s t : State} (hs : NotHolding s) (h : t.mgmt = s.mgmt) : NotHolding t := by
  unfold NotHolding
  rw [h]
  exact hs

theorem Refused.notHolding {f : MgmtFrame} {s t : State} (h : Refused f s t) : NotHolding t := by
  obtain ⟨r, -, rfl⟩ := h
  exact setPhase_notHolding f (.finished r) s

/-- A row leaves the Management Unit as it is, or with a frame in execution. -/
theorem onTaken_notHolding {row : MgmtRow} {eff : MgmtFrame → State → State} (s : State)
    (h : ∀ f, NotHolding (eff f s)) : onTaken row eff s = s ∨ NotHolding (onTaken row eff s) := by
  rcases onTaken_cases row eff s with hsame | ⟨f, -, -, hrow⟩
  · exact .inl hsame
  · rw [hrow]; exact .inr (h f)

theorem withArg_notHolding {n : Nat} {act : Fin n → MgmtFrame → State → State} (f : MgmtFrame) (s : State)
    (h : ∀ i, NotHolding (act i f s)) : NotHolding (withArg n act f s) :=
  withArg_keeps (P := NotHolding) (fun st => setPhase_notHolding f (.finished (plainReply f st)) s) h

theorem requestWrites_mgmt (f : MgmtFrame) (bs : List Nat) (s : State) : (requestWrites f bs s).mgmt = s.mgmt := by
  rw [requestWrites_only f bs s]

theorem requestReads_notHolding (f : MgmtFrame) (s : State) : NotHolding (requestReads f s) := by
  unfold requestReads
  dsimp only
  split
  · rw [request_only]
    exact (setPhase_notHolding f _ s).of_eq rfl
  · rw [request_only]
    exact NotHolding.of_eq (s := request _ _ _) (by rw [request_only]; exact (setPhase_notHolding f _ s).of_eq rfl) rfl

theorem readNext_notHolding (f : MgmtFrame) (ws : List Word) (s : State) : NotHolding (readNext f ws s) :=
  setPhase_notHolding f _ s

theorem clearNext_notHolding (f : MgmtFrame) (ws : List Word) (s : State) : NotHolding (clearNext f ws s) := by
  unfold clearNext clearCounter
  split
  · exact (readNext_notHolding f ws s).of_eq rfl
  · exact readNext_notHolding f ws s

/-- Every command that the Management Unit executes leaves it as it was, or with a frame in execution. -/
theorem effect_notHolding {c : Instr} (h : family c = .setting ∨ family c = .reading ∨ family c = .tapAccess ∨
    family c = .portWrite ∨ family c = .channel) (s : State) : effect c s = s ∨ NotHolding (effect c s) := by
  have hanswer : ∀ f st u, NotHolding (answer f st u) := fun f st u => setPhase_notHolding f _ u
  cases c with
  | mgmtFrameTake =>
    change mgmtFrameTake s = s ∨ NotHolding (mgmtFrameTake s)
    unfold mgmtFrameTake
    split
    · dsimp only
      split
      · exact .inr (setPhase_notHolding _ _ _)
      · exact .inr (hanswer _ _ _)
    · exact .inl rfl
  | mwriteSource =>
    refine onTaken_notHolding s fun f => ?_
    rcases writeSource_cases f s with h | ⟨-, -, -, h⟩
    · exact h.notHolding
    · rw [h]; exact hanswer _ _ _
  | mwriteSlot =>
    refine onTaken_notHolding s fun f => ?_
    rcases writeSlot_cases f s with h | ⟨-, -, -, h⟩
    · exact h.notHolding
    · rw [h]; exact hanswer _ _ _
  | mwritePath =>
    refine onTaken_notHolding s fun f => ?_
    rcases writePath_cases f s with h | ⟨-, -, -, -, h⟩
    · exact h.notHolding
    · rw [h]; exact hanswer _ _ _
  | run =>
    refine onTaken_notHolding s fun f => ?_
    rcases actRun_cases f s with h | ⟨p, -, h⟩
    · exact h.notHolding
    · rw [h]; exact hanswer _ _ _
  | stop => exact onTaken_notHolding s fun f => hanswer _ _ _
  | gainRestart => exact onTaken_notHolding s fun f => withArg_notHolding f s fun _ => hanswer _ _ _
  | mwrite =>
    refine onTaken_notHolding s fun f => ?_
    rcases writeOther_cases f s with h | h
    · exact h.notHolding
    · rw [h]; exact hanswer _ _ _
  | mread =>
    rcases onReading_cases .mread readTable readNext s with h | ⟨f, -, -, h⟩ | ⟨f, ws, -, -, h⟩
    · exact .inl h
    · refine .inr ?_
      change NotHolding (onReading .mread readTable readNext s)
      rw [h]
      rcases readTable_cases f s with h | h | ⟨all, h⟩
      · exact h.notHolding
      · rw [h]; exact readNext_notHolding _ _ _
      · rw [h]; exact setPhase_notHolding f (.finished _) s
    · refine .inr ?_
      change NotHolding (onReading .mread readTable readNext s)
      rw [h]
      exact readNext_notHolding _ _ _
  | mreadCountersClear =>
    rcases onReading_cases .mreadCountersClear readClear clearNext s with h | ⟨f, -, -, h⟩ | ⟨f, ws, -, -, h⟩
    · exact .inl h
    · refine .inr ?_
      change NotHolding (onReading .mreadCountersClear readClear clearNext s)
      rw [h]
      rcases readClear_cases f s with h | h
      · exact h.notHolding
      · rw [h]; exact clearNext_notHolding _ _ _
    · refine .inr ?_
      change NotHolding (onReading .mreadCountersClear readClear clearNext s)
      rw [h]
      exact clearNext_notHolding _ _ _
  | clearParity => exact onTaken_notHolding s fun f => hanswer _ _ _
  | dump =>
    refine onTaken_notHolding s fun f => ?_
    rcases actDump_cases f s with h | ⟨a, b, -, h⟩
    · exact h.notHolding
    · rw [h]; exact setPhase_notHolding f (.finished _) _
  | mwriteTaps =>
    refine onTaken_notHolding s fun f => ?_
    rcases writeTaps_cases f s with h | ⟨-, h⟩
    · exact h.notHolding
    · rw [h]; exact (setPhase_notHolding f _ s).of_eq (requestWrites_mgmt _ _ _)
  | mreadTaps =>
    refine onTaken_notHolding s fun f => ?_
    rcases readTaps_cases f s with h | h
    · exact h.notHolding
    · rw [h]; exact requestReads_notHolding _ _
  | mwritePort =>
    refine onTaken_notHolding s fun f => ?_
    rcases writePort_cases f s with h | ⟨-, -, h⟩
    · exact h.notHolding
    · rw [h]; exact hanswer _ _ _
  | portReset => exact onTaken_notHolding s fun f => withArg_notHolding f s fun _ => hanswer _ _ _
  | startSlot =>
    refine onTaken_notHolding s fun f => withArg_notHolding f s fun t => ?_
    rcases startChannel_cases t f s with h | ⟨-, -, h⟩ | ⟨-, h⟩
    · exact h.notHolding
    · rw [h]; exact hanswer _ _ _
    · rw [h]; exact hanswer _ _ _
  | haltSlot =>
    refine onTaken_notHolding s fun f => withArg_notHolding f s fun t => ?_
    rcases haltChannel_cases t f s with h | h | ⟨-, -, h⟩
    · exact h.notHolding
    · rw [h]; exact hanswer _ _ _
    · rw [h]; exact hanswer _ _ _
  | releaseSlot =>
    refine onTaken_notHolding s fun f => withArg_notHolding f s fun t => ?_
    rcases releaseChannel_cases t f s with h | h | ⟨-, h⟩
    · exact h.notHolding
    · rw [h]; exact hanswer _ _ _
    · rw [h]; exact hanswer _ _ _
  | laneReset => exact onTaken_notHolding s fun f => withArg_notHolding f s fun _ => hanswer _ _ _
  | _ => rcases h with h | h | h | h | h <;> cases h

namespace PlacesHeld

theorem of_eq {s t : State} (hs : PlacesHeld s) (hret : t.ret = s.ret) (hmgmt : t.mgmt = s.mgmt)
    (hheld : t.dump.held = s.dump.held) : PlacesHeld t :=
  ⟨by rw [hret, hmgmt]; exact hs.reply, by rw [hret, hheld]; exact hs.dump⟩

/-- With no reply held, only the dump's side matters. -/
theorem of_notHolding {s t : State} (hs : PlacesHeld s) (h : NotHolding t) (hret : t.ret = s.ret)
    (hheld : t.dump.held = s.dump.held) : PlacesHeld t :=
  ⟨fun r hr => absurd hr (h r), by rw [hret, hheld]; exact hs.dump⟩

theorem placeReply (r : Reply) {s : State} (hs : PlacesHeld s) : PlacesHeld (placeReply r s) := by
  refine ⟨fun x hx => ?_, ?_⟩
  · rw [placeReply_mgmt] at hx
    cases hx
  · rw [placeReply_dump, placeReply_ret]
    exact hs.dump

theorem placeDumpFrame (d : DumpFrame) {s : State} (hs : PlacesHeld s) : PlacesHeld (placeDumpFrame d s) := by
  refine ⟨?_, fun h => ?_⟩
  · rw [placeDumpFrame_mgmt, placeDumpFrame_ret]
    exact hs.reply
  · rw [placeDumpFrame_held] at h
    cases h

theorem placeAborted {s : State} (hs : PlacesHeld s) : PlacesHeld (placeAborted s) :=
  ⟨hs.reply, fun _ => rfl⟩

theorem deliverDump (block : Fin 512) (ws : List StoredWord) (s : State) (hs : PlacesHeld s) :
    PlacesHeld (deliverDump block ws s) := by
  unfold Machine.deliverDump
  split
  · exact hs.placeAborted
  · dsimp only
    split
    · exact hs.placeDumpFrame _
    · rename_i hfull
      exact ⟨hs.reply, fun _ => by simpa [Option.isSome_iff_ne_none] using hfull⟩

theorem storeUseClosed : StoreUseClosed PlacesHeld where
  count i s hs := by rw [incr_only i s]; exact hs.of_eq rfl rfl rfl
  parity b ws s hs := by rw [checkParity_only b ws s]; exact hs.of_eq rfl rfl rfl
  request b op s hs := by rw [request_only b op s]; exact hs.of_eq rfl rfl rfl
  next b s _ hs := by rw [takeNext_only b s]; exact hs.of_eq rfl rfl rfl
  report _ _ _ _ hs := hs.of_eq rfl rfl rfl
  engine _ _ hs := hs.of_eq rfl rfl rfl
  adapted _ _ _ hs := hs.of_eq rfl rfl rfl
  gain _ _ hs := hs.of_eq rfl rfl rfl
  comp _ _ _ hs := hs.of_eq rfl rfl rfl
  dump := deliverDump
  phase _ _ _ _ _ hs := ⟨fun _ h => (by cases h), hs.dump⟩

theorem restartDump (s : State) (hs : PlacesHeld s) : PlacesHeld (restartDump s) := by
  unfold Machine.restartDump
  split
  · exact hs
  · split
    · exact hs.of_eq rfl rfl rfl
    · exact hs.placeAborted
  · exact hs.placeAborted
  · split
    · exact hs.placeAborted
    · exact hs

theorem replySide {c : Instr} (hfamily : family c = .reply) (s : State) (hs : PlacesHeld s) :
    PlacesHeld (effect c s) := by
  cases c with
  | executionComplete =>
    change PlacesHeld (executionComplete s)
    unfold executionComplete
    split
    · exact hs
    · split
      · exact hs.placeReply _
      · rename_i hfull
        exact ⟨fun _ _ => by simpa [Option.isSome_iff_ne_none] using hfull, hs.dump⟩
  | returnTransmitEnd =>
    change PlacesHeld (returnTransmitEnd s)
    unfold returnTransmitEnd
    split
    · exact hs
    · dsimp only
      split
      · rw [raise_only]
        exact ⟨hs.reply, hs.dump⟩
      · exact ⟨hs.reply, hs.dump⟩
  | _ => cases hfamily

theorem restart (f : MgmtFrame) (s : State) (hs : PlacesHeld s) : PlacesHeld (actRestart f s) := by
  refine actRestart_keeps (Q := PlacesHeld) ?_ (fun u hu => ?_) restartDump
  · unfold restarted; exact ⟨fun _ h => (by cases h), hs.dump⟩
  · rw [restartPass_only u]; exact hu.of_eq rfl rfl rfl

/-- Every command but RESTART that the Management Unit executes. -/
theorem executed {c : Instr} (h : family c = .setting ∨ family c = .reading ∨ family c = .tapAccess ∨
    family c = .portWrite ∨ family c = .channel) {s : State} (hs : PlacesHeld s) (hret : (effect c s).ret = s.ret)
    (hheld : (effect c s).dump.held = s.dump.held) : PlacesHeld (effect c s) := by
  rcases effect_notHolding h s with hsame | hnot
  · rw [hsame]; exact hs
  · exact hs.of_notHolding hnot hret hheld

theorem reading_held {c : Instr} (hfamily : family c = .reading) (s : State) :
    (effect c s).dump.held = s.dump.held := by
  cases c with
  | mwrite =>
    refine onTaken_keeps (P := fun u => u.dump.held = s.dump.held) rfl fun f _ => ?_
    rcases writeOther_cases f s with ⟨r, -, h⟩ | h <;> rw [h] <;> rfl
  | mread =>
    refine onReading_keeps (P := fun u => u.dump.held = s.dump.held) rfl (fun f _ => ?_) fun f ws _ => rfl
    rcases readTable_cases f s with ⟨r, -, h⟩ | h | ⟨all, h⟩ <;> rw [h] <;> rfl
  | mreadCountersClear =>
    have hnext : ∀ f ws, (clearNext f ws s).dump.held = s.dump.held := fun f ws => by
      unfold clearNext clearCounter
      split <;> rfl
    refine onReading_keeps (P := fun u => u.dump.held = s.dump.held) rfl (fun f _ => ?_) fun f ws _ => hnext f ws
    rcases readClear_cases f s with ⟨r, -, h⟩ | h <;> rw [h]
    · rfl
    · exact hnext f []
  | clearParity => exact onTaken_keeps (P := fun u => u.dump.held = s.dump.held) rfl fun f _ => rfl
  | dump =>
    refine onTaken_keeps (P := fun u => u.dump.held = s.dump.held) rfl fun f _ => ?_
    rcases actDump_cases f s with ⟨r, -, h⟩ | ⟨a, b, -, h⟩ <;> rw [h] <;> rfl
  | _ => cases hfamily

theorem effect (c : Instr) (s : State) (hs : PlacesHeld s) : PlacesHeld (effect c s) := by
  cases h : family c with
  | reset => rw [effect_of_reset h]; exact hs
  | port => rw [effect_onlyPorts h s]; exact hs.of_eq rfl rfl rfl
  | lane => rw [effect_onlyTraffic h s]; exact hs.of_eq rfl rfl rfl
  | pass => rw [effect_onlyPass h s]; exact hs.of_eq rfl rfl rfl
  | storeUse => exact storeUseClosed.effect h s hs
  | setting =>
    exact hs.executed (.inl h) (by rw [effect_onlySettings h s]) (by rw [effect_onlySettings h s])
  | reading => exact hs.executed (.inr (.inl h)) (by rw [effect_onlyReads h s]) (reading_held h s)
  | tapAccess =>
    exact hs.executed (.inr (.inr (.inl h))) (by rw [effect_onlyTapAccess h s]) (by rw [effect_onlyTapAccess h s])
  | portWrite =>
    exact hs.executed (.inr (.inr (.inr (.inl h)))) (by rw [effect_onlyPortWrite h s])
      (by rw [effect_onlyPortWrite h s])
  | channel =>
    exact hs.executed (.inr (.inr (.inr (.inr h)))) (by rw [effect_onlyChannelAction h s])
      (by rw [effect_onlyChannelAction h s])
  | restart => exact effect_restart_keeps h hs fun f _ => restart f s hs
  | reply => exact replySide h s hs

end PlacesHeld

namespace ReturnBusy

theorem of_eq {s t : State} (hs : ReturnBusy s) (hret : t.ret = s.ret) (hmgmt : t.mgmt = s.mgmt)
    (hdump : t.dump = s.dump) (hnotices : t.notices = s.notices) : ReturnBusy t :=
  ⟨by rw [hret, hnotices]; exact hs.line, by rw [hret, hmgmt]; exact hs.reply, by rw [hret, hdump]; exact hs.dump⟩

/-- R182: the idle line takes the first frame there is. -/
theorem of_returnTake {s : State} (hs : PlacesHeld s) : ReturnBusy (returnTake s) := by
  have hbusy : ∀ {u : State} {x : ReturnFrame}, u.ret.line = some x → PlacesHeld u → ReturnBusy u :=
    fun hx hu => ⟨fun h => (by rw [hx] at h; cases h), hu.reply, hu.dump⟩
  unfold returnTake
  split
  · rename_i hline
    exact hbusy hline hs
  · rename_i r _ hreply
    dsimp only
    split
    · rename_i h hmgmt
      refine hbusy (x := .reply r) ?_ ⟨fun x hx => ?_, ?_⟩
      · rw [placeReply_ret]
      · rw [placeReply_mgmt] at hx; cases hx
      · rw [placeReply_dump, placeReply_ret]; exact hs.dump
    · rename_i hmgmt
      exact hbusy (x := .reply r) rfl ⟨fun x hx => (by rw [hmgmt] at hx; cases hx), hs.dump⟩
    · rename_i hmgmt
      exact hbusy (x := .reply r) rfl ⟨fun x hx => (by rw [hmgmt] at hx; cases hx), hs.dump⟩
  · exact hbusy rfl ⟨hs.reply, hs.dump⟩
  · rename_i d _ _ _ hplace
    dsimp only
    split
    · refine hbusy (x := .dump d) ?_ ⟨?_, fun h => ?_⟩
      · rw [placeDumpFrame_ret]
      · rw [placeDumpFrame_mgmt, placeDumpFrame_ret]; exact hs.reply
      · rw [placeDumpFrame_held] at h; cases h
    · rename_i hheld
      exact hbusy (x := .dump d) rfl ⟨hs.reply, fun h => by rw [hheld] at h; cases h⟩
  · rename_i hline hreply hnotices hplace
    exact ⟨fun _ => ⟨hreply, hnotices, hplace⟩, hs.reply, hs.dump⟩

/-- R182: whatever an effect leaves, the arbiter's choice leaves nothing waiting for an idle line. -/
theorem returnChoose {s : State} (hs : PlacesHeld s) : ReturnBusy (returnChoose s) := by
  have hsettle : ∀ u, ReturnBusy u → ReturnBusy (settleRestart u) := fun u hu => by
    unfold settleRestart
    split
    · split
      · exact ⟨hu.line, fun _ h => (by cases h), hu.dump⟩
      · exact hu
    · exact hu
  unfold Machine.returnChoose
  refine hsettle _ ?_
  split
  · rename_i hline
    exact ⟨fun h => (by rw [h] at hline; cases hline), hs.reply, hs.dump⟩
  · refine of_returnTake ?_
    unfold placeReady
    split
    · split
      · exact hs.placeReply _
      · exact hs
    · exact hs

theorem reset : ReturnBusy State.reset :=
  ⟨fun _ => ⟨rfl, rfl, rfl⟩, fun _ h => (by cases h), fun h => by cases h⟩

theorem step {s t : State} (h : step s = .next t) (hs : ReturnBusy s) : ReturnBusy t :=
  step_keeps (fun _ _ hs => hs.of_eq rfl rfl rfl rfl) (fun _ => reset.of_eq rfl rfl rfl rfl)
    (fun _ hs => hs.of_eq rfl rfl rfl rfl) (fun c s hs => returnChoose (PlacesHeld.effect c s hs.places)) h hs

end ReturnBusy

end Machine
end Sys2Proof

namespace Sys2Proof
namespace Machine

/-! ### Where an entry of a lane's queues can come from -/

/-- R155, R158: the queues of lane k hold entries of lane l's slots only. -/
structure LaneOwn (l : Fin 4) (k : Lane) : Prop where
  timed : ∀ e ∈ k.timed, slotLane e.slot = l
  untimed : ∀ e ∈ k.untimed, slotLane e.slot = l

namespace LaneOwn

/-- Fewer entries, and HALTs of the same slots. -/
theorem mono {l : Fin 4} {k m : Lane} (h : LaneOwn l k) (htimed : ∀ e ∈ m.timed, e ∈ k.timed)
    (huntimed : ∀ e ∈ m.untimed, ∃ x ∈ k.untimed, x.slot = e.slot) : LaneOwn l m := by
  refine ⟨fun e he => h.timed e (htimed e he), fun e he => ?_⟩
  obtain ⟨x, hx, hslot⟩ := huntimed e he
  rw [← hslot]
  exact h.untimed x hx

theorem same {l : Fin 4} {k m : Lane} (h : LaneOwn l k) (htimed : m.timed = k.timed)
    (huntimed : m.untimed = k.untimed) : LaneOwn l m := by
  refine h.mono (fun e he => ?_) fun e he => ⟨e, ?_, rfl⟩
  · rwa [htimed] at he
  · rwa [huntimed] at he

theorem of_empty {l : Fin 4} {k : Lane} (htimed : k.timed = []) (huntimed : k.untimed = []) : LaneOwn l k := by
  refine ⟨fun e he => ?_, fun e he => ?_⟩
  · rw [htimed] at he; cases he
  · rw [huntimed] at he; cases he

/-- R156: the lane that an entry of its own has joined, in the place of an older one. -/
theorem joined {e : TimedEntry} {k : Lane} (h : LaneOwn (slotLane e.slot) k) : LaneOwn (slotLane e.slot)
    { k with timed := k.timed.filter (fun x => x.slot ≠ e.slot) ++ [e] } := by
  refine ⟨fun x hx => ?_, h.untimed⟩
  rcases List.mem_append.1 hx with hold | hnew
  · exact h.timed x (List.mem_filter.1 hold).1
  · rw [List.mem_singleton.1 hnew]

/-- R142: the lane of a slot that halts. -/
theorem halted {t : Fin 96} {n : Word} {b : Bool} {k : Lane} (h : LaneOwn (slotLane t) k) : LaneOwn (slotLane t)
    { k with timed := k.timed.filter (fun e => decide (e.slot ≠ t)), untimed := k.untimed ++ [⟨t, n, b⟩] } := by
  refine ⟨fun x hx => h.timed x (List.mem_filter.1 hx).1, fun x hx => ?_⟩
  rcases List.mem_append.1 hx with hold | hnew
  · exact h.untimed x hold
  · rw [List.mem_singleton.1 hnew]

end LaneOwn

/-- R145 to R151: what a status or an expiry does to the lanes and the records: nothing, or the slot's timed entry is
flushed. -/
theorem ChannelStep.lanes {t : Fin 96} {k : SentKind} {s u : State} (h : ChannelStep t k s u) :
    u.outstanding = s.outstanding ∧ (u.lanes = s.lanes ∨ u.lanes = (flushTimed t s).lanes) := by
  cases h with
  | none hcounts => rw [hcounts]; exact ⟨rfl, .inl rfl⟩
  | stays c _ _ _ hcounts => rw [hcounts]; exact ⟨rfl, .inl rfl⟩
  | flushed c _ _ hcounts => rw [hcounts]; exact ⟨rfl, .inr rfl⟩
  | halted _ _ hcounts => rw [hcounts]; exact ⟨rfl, .inl rfl⟩

/-! ### A DOWN lane is empty (R118, R120) -/

/-- R118, R120: lane l of record k: DOWN it sends and collects nothing; its line and its queues are its own slots'. -/
structure LaneFits (l : Fin 4) (k : Lane) : Prop where
  down : k.up = false → k.tx = none ∧ k.rx = none ∧ k.linkErrors = 0
  tx : ∀ x, k.tx = some x → slotLane x.frame.slot = l
  own : LaneOwn l k

theorem LaneFits.of_empty {l : Fin 4} {k : Lane} (hdown : k.tx = none ∧ k.rx = none ∧ k.linkErrors = 0)
    (htimed : k.timed = []) (huntimed : k.untimed = []) : LaneFits l k :=
  ⟨fun _ => hdown, (fun x hx => by rw [hdown.1] at hx; cases hx), LaneOwn.of_empty htimed huntimed⟩

namespace LanesLegal

theorem fits {s : State} (hs : LanesLegal s) (l : Fin 4) : LaneFits l s.lanes[l] :=
  ⟨hs.down l, hs.txOn l, hs.timedOn l, hs.untimedOn l⟩

theorem of_fits {s : State} (hlanes : ∀ l : Fin 4, LaneFits l s.lanes[l])
    (hrecords : ∀ t : Fin 96, s.lanes[slotLane t].up = false → s.outstanding[t] = none) : LanesLegal s :=
  ⟨fun l => (hlanes l).down, hrecords, fun l => (hlanes l).tx, fun l => (hlanes l).own.timed,
    fun l => (hlanes l).own.untimed⟩

theorem of_eq {s t : State} (hs : LanesLegal s) (hlanes : t.lanes = s.lanes) (hout : t.outstanding = s.outstanding) :
    LanesLegal t := by
  refine of_fits (fun l => ?_) fun u => ?_
  · rw [hlanes]; exact hs.fits l
  · rw [hlanes, hout]; exact hs.records u

theorem counts {s u : State} (h : OnlyCounts s u) (hs : LanesLegal s) : LanesLegal u := by
  rw [h]; exact hs.of_eq rfl rfl

/-- One lane changed, and not from UP to DOWN. -/
theorem setLane {s : State} (hs : LanesLegal s) {l : Fin 4} {k : Lane} (hk : LaneFits l k)
    (hup : k.up = false → s.lanes[l].up = false) : LanesLegal (setLane l k s) := by
  refine of_fits (fun m => ?_) fun t ht => hs.records t ?_
  · rw [setLane_lanes_get]
    split
    · rename_i hm; rw [hm]; exact hk
    · exact hs.fits m
  · rw [setLane_lanes_get] at ht
    split at ht
    · rename_i hm; subst hm; exact hup ht
    · exact ht

theorem flushTimed (t : Fin 96) {s : State} (hs : LanesLegal s) : LanesLegal (flushTimed t s) := by
  have hfits := hs.fits (slotLane t)
  exact hs.setLane ⟨hfits.down, hfits.tx, hfits.own.mono (fun e he => (List.mem_filter.1 he).1) fun e he =>
    ⟨e, he, rfl⟩⟩ id

theorem removed (t : Fin 96) {s : State} (hs : LanesLegal s) : LanesLegal (setOutstanding t none s) := by
  refine of_fits hs.fits fun u hu => ?_
  by_cases hut : u = t
  · rw [hut]; exact setOutstanding_get ..
  · rw [setOutstanding_get_ne _ _ _ _ hut]
    exact hs.records u hu

/-- R125, R126: a record enters on a lane that is UP. -/
theorem record {t : Fin 96} (r : OutRecord) {s : State} (hs : LanesLegal s) (hup : s.lanes[slotLane t].up = true) :
    LanesLegal (setOutstanding t (some r) s) := by
  refine of_fits hs.fits fun u hu => ?_
  by_cases hut : u = t
  · rw [hut] at hu
    have hdown : s.lanes[slotLane t].up = false := hu
    rw [hup] at hdown
    cases hdown
  · rw [setOutstanding_get_ne _ _ _ _ hut]
    exact hs.records u hu

/-- R160: the slot of the frame chosen is one of the lane's. -/
theorem laneChoose (l : Fin 4) {s : State} (hs : LanesLegal s) : LanesLegal (laneChoose l s) := by
  rcases laneChoose_cases l s with hsame | ⟨f, timed, untimed, hup, -, hnext, hset⟩
  · rwa [hsame]
  · have hdown : s.lanes[l].up ≠ false := by rw [hup]; decide
    obtain ⟨htimed, huntimed⟩ := laneNext_sublist hnext
    have hown := (hs.fits l).own
    rw [hset]
    refine hs.setLane ⟨fun h => absurd h hdown, fun x hx => ?_, ?_⟩ id
    · cases hx
      rcases laneNext_cases hnext with ⟨e, a, b, hq, -, -, rfl, -⟩ | ⟨e, a, b, hq, -, -, rfl, -⟩
      · exact (congrArg slotLane e.frame_slot).trans (hown.timed e (by rw [hq]; simp))
      · exact hown.untimed e (by rw [hq]; simp)
    · exact hown.mono (fun e he => htimed.subset he) fun e he => ⟨e, huntimed.subset he, rfl⟩

theorem channelStep {t : Fin 96} {k : SentKind} {s u : State} (h : ChannelStep t k s u) (hs : LanesLegal s) :
    LanesLegal u := by
  obtain ⟨hout, hlanes | hlanes⟩ := h.lanes
  · exact hs.of_eq hlanes hout
  · exact (hs.flushTimed t).of_eq hlanes hout

theorem laneEmpty (l : Fin 4) {s : State} (hs : LanesLegal s) : LanesLegal (laneEmpty l s) := by
  refine of_fits (fun m => ?_) fun t ht => ?_
  · rw [laneEmpty_lanes_get]
    split
    · exact LaneFits.of_empty ⟨rfl, rfl, rfl⟩ rfl rfl
    · exact hs.fits m
  · rw [laneEmpty_outstanding_get]
    split
    · rfl
    · rename_i ht'
      rw [laneEmpty_lanes_get, if_neg ht'] at ht
      exact hs.records t ht

theorem laneUp (l : Fin 4) {s : State} (hs : LanesLegal s) : LanesLegal (laneUp l s) := by
  have hset := hs.setLane (l := l) (k := { s.lanes[l] with up := true, training := false, linkErrors := 0 })
    ⟨(by intro h; cases h), (hs.fits l).tx, (hs.fits l).own.same rfl rfl⟩ (by intro h; cases h)
  exact hset.of_eq rfl rfl

theorem laneSteps : LaneSteps LanesLegal where
  counts _ _ h hs := hs.counts h
  receive l rx n s hup hs := by
    have hdown : s.lanes[l].up ≠ false := by rw [hup]; decide
    exact hs.setLane ⟨fun h => absurd h hdown, (hs.fits l).tx, (hs.fits l).own.same rfl rfl⟩ id
  empty l _ hs := hs.laneEmpty l
  up l _ _ _ hcounts hs := ((hs.laneUp l).counts hcounts).laneChoose l
  answered a r s u _ hcounts hs := by
    refine laneChoose _ ?_
    rw [distribute_onlyDelivery a r.kind u]
    exact (((hs.removed a.slot).counts hcounts).channelStep (channelStatus_step a.slot r.kind a.status u)).of_eq rfl rfl
  expired t r s _ hs := ((hs.removed t).channelStep (channelExpiry_step t r.kind _)).laneChoose _
  sent l x s u hx hcounts hs := by
    have hlane := hs.txOn l x hx
    have hup : s.lanes[l].up = true := by
      by_contra hdown
      have hnone := (hs.down l (by simpa using hdown)).1
      rw [hx] at hnone
      cases hnone
    have hdown : s.lanes[l].up ≠ false := by rw [hup]; decide
    have hfreed : LanesLegal (Machine.setLane l { s.lanes[l] with tx := none } s) :=
      hs.setLane ⟨fun h => absurd h hdown, (fun y hy => by cases hy), (hs.fits l).own.same rfl rfl⟩ id
    have hu : LanesLegal u := hfreed.counts hcounts
    refine laneChoose l ?_
    split
    · refine hu.record _ ?_
      subst hlane
      rw [hcounts]
      exact (congrArg Lane.up (setLane_get _ _ s)).trans hup
    · exact hu

theorem handOver (e : TimedEntry) (s : State) (hs : LanesLegal s) : LanesLegal (handOver e s) := by
  unfold Machine.handOver
  split
  · refine laneChoose _ ?_
    have hfits := hs.fits (slotLane e.slot)
    have hjoined : LanesLegal (Machine.setLane (slotLane e.slot) { s.lanes[slotLane e.slot] with
        timed := s.lanes[slotLane e.slot].timed.filter (fun x => x.slot ≠ e.slot) ++ [e] } s) :=
      hs.setLane ⟨hfits.down, hfits.tx, hfits.own.joined⟩ id
    unfold joinTimed
    dsimp only
    split
    · exact hjoined.counts ((incr_only _ _).trans (raise_only _ _ _))
    · exact hjoined
  · exact hs

theorem passClosed : PassClosed LanesLegal where
  pass _ _ hs := hs.of_eq rfl rfl
  overrun s hs := hs.counts (raise_only _ _ s)
  count i s hs := hs.counts (incr_only i s)
  parity ws s hs := hs.counts (checkParity_only .h ws s)
  handOver := handOver
  request b op s hs := by rw [request_only b op s]; exact hs.of_eq rfl rfl
  apply _ hs := hs.of_eq rfl rfl
  clear _ hs := hs.of_eq rfl rfl
  push _ hs := hs.of_eq rfl rfl
  expire s _ hs := by
    refine of_fits (fun l => ?_) fun t ht => hs.records t ?_
    all_goals unfold Machine.expire at *
    · rw [markAged_lanes_get]
      refine ⟨(hs.fits l).down, (hs.fits l).tx, (hs.fits l).own.mono (fun e he => he) fun e he => ?_⟩
      obtain ⟨x, hx, rfl⟩ := List.mem_map.1 he
      exact ⟨x, hx, rfl⟩
    · rw [markAged_lanes_get] at ht
      exact ht

theorem channel {c : Instr} (hfamily : family c = .channel) (s : State) (hs : LanesLegal s) :
    LanesLegal (effect c s) := by
  have hphase : ∀ f ph u, LanesLegal u → LanesLegal (setPhase f ph u) := fun f ph u hu => hu.of_eq rfl rfl
  have hset : ∀ f ph t c, LanesLegal (setPhase f ph (setChannel t c s)) := fun f ph t c => hs.of_eq rfl rfl
  cases c with
  | startSlot =>
    refine onTaken_keeps hs fun f _ => withArg_keeps (fun _ => hphase f _ s hs) fun t => ?_
    rcases startChannel_cases t f s with ⟨r, -, h⟩ | ⟨-, -, h⟩ | ⟨-, h⟩ <;> rw [h]
    · exact hphase f _ s hs
    · exact hset f _ t _
    · have hchannel : LanesLegal (setChannel t (Channel.at .probe) s) := hs.of_eq rfl rfl
      exact hphase f _ _ (hchannel.counts (raise_only _ _ _))
  | haltSlot =>
    refine onTaken_keeps hs fun f _ => withArg_keeps (fun _ => hphase f _ s hs) fun t => ?_
    rcases haltChannel_cases t f s with ⟨r, -, h⟩ | h | ⟨-, -, h⟩ <;> rw [h]
    · exact hphase f _ s hs
    · exact hphase f _ s hs
    · have hfits := hs.fits (slotLane t)
      have hchannel : LanesLegal (setChannel t ⟨.halting, 0, none⟩ s) := hs.of_eq rfl rfl
      rw [enterHalting_eq]
      refine hphase f _ _ (laneChoose _ (hchannel.setLane ?_ ?_))
      · exact ⟨hfits.down, hfits.tx, hfits.own.halted⟩
      · exact id
  | releaseSlot =>
    refine onTaken_keeps hs fun f _ => withArg_keeps (fun _ => hphase f _ s hs) fun t => ?_
    rcases releaseChannel_cases t f s with ⟨r, -, h⟩ | h | ⟨-, h⟩ <;> rw [h]
    · exact hphase f _ s hs
    · exact hphase f _ s hs
    · exact hset f _ t _
  | laneReset =>
    exact onTaken_keeps hs fun f _ => withArg_keeps (fun _ => hphase f _ s hs) fun l =>
      laneSteps.actLaneReset l f s hs hphase
  | _ => cases hfamily

theorem restart (f : MgmtFrame) (s : State) (hs : LanesLegal s) : LanesLegal (actRestart f s) := by
  refine actRestart_keeps (Q := LanesLegal) ?_ passClosed.restartPass fun u hu => ?_
  · unfold restarted
    refine of_fits (fun l => ?_) fun t _ => replicate_get _ t
    have hget := TrafficConsistent.restartedLanes_get s l
    dsimp only
    rw [hget]
    refine ⟨fun hdown => ?_, fun x hx => ?_, LaneOwn.of_empty rfl rfl⟩
    · obtain ⟨htx, hrx, herrors⟩ := hs.down l hdown
      exact ⟨by dsimp only; rw [htx]; rfl, hrx, herrors⟩
    · obtain ⟨y, hy, rfl⟩ := Option.map_eq_some_iff.1 hx
      exact hs.txOn l y hy
  · rw [restartDump_only u]; exact hu.of_eq rfl rfl

theorem effect (c : Instr) (s : State) (hs : LanesLegal s) : LanesLegal (effect c s) := by
  cases h : family c with
  | reset => rw [effect_of_reset h]; exact hs
  | port => rw [effect_onlyPorts h s]; exact hs.of_eq rfl rfl
  | lane => exact laneSteps.effect h s hs
  | pass => exact passClosed.effect h s hs
  | storeUse => rw [effect_onlyStoreUse h s]; exact hs.of_eq rfl rfl
  | setting => rw [effect_onlySettings h s]; exact hs.of_eq rfl rfl
  | reading => rw [effect_onlyReads h s]; exact hs.of_eq rfl rfl
  | tapAccess => rw [effect_onlyTapAccess h s]; exact hs.of_eq rfl rfl
  | portWrite => rw [effect_onlyPortWrite h s]; exact hs.of_eq rfl rfl
  | channel => exact channel h s hs
  | restart => exact effect_restart_keeps h hs fun f _ => restart f s hs
  | reply => rw [effect_onlyReturn h s]; exact hs.of_eq rfl rfl

theorem reset : LanesLegal State.reset :=
  of_fits (fun l => by rw [reset_lanes]; exact LaneFits.of_empty ⟨rfl, rfl, rfl⟩ rfl rfl) fun t _ => reset_outstanding t

theorem held (s : State) : LanesLegal (heldInReset s) :=
  of_fits (fun l => by rw [heldInReset_lanes]; exact LaneFits.of_empty ⟨rfl, rfl, rfl⟩ rfl rfl) fun t _ =>
    reset_outstanding t

theorem release (s : State) (hs : LanesLegal s) : LanesLegal (releaseReset s) := by
  refine of_fits (fun l => ?_) fun t ht => hs.records t ?_
  · rw [releaseReset_lanes]
    exact ⟨(hs.fits l).down, (hs.fits l).tx, (hs.fits l).own.same rfl rfl⟩
  · rw [releaseReset_lanes] at ht
    exact ht

theorem step {s t : State} (h : step s = .next t) (hs : LanesLegal s) : LanesLegal t :=
  step_keeps_of_effect (fun _ _ hs => hs.of_eq rfl rfl) held release
    (fun s hs => by rw [returnChoose_only s]; exact hs.of_eq rfl rfl) effect h hs

end LanesLegal

end Machine
end Sys2Proof

namespace Sys2Proof
namespace Machine

/-! ### No eligible entry waits for the free line of an UP lane (R160, R161) -/

/-- R160: every entry that waits in lane k is of a slot with a frame out. -/
structure LaneBlocked (s : State) (k : Lane) : Prop where
  timed : ∀ e ∈ k.timed, s.outstanding[e.slot] ≠ none
  untimed : ∀ e ∈ k.untimed, s.outstanding[e.slot] ≠ none

theorem laneBlocked_of_laneNext {s : State} {k : Lane} (h : laneNext s k = none) : LaneBlocked s k := by
  unfold laneNext at h
  split at h
  · cases h
  · split at h
    · cases h
    · rename_i htimed
      split at h
      · cases h
      · rename_i huntimed
        rw [takeFirst_none] at htimed huntimed
        refine ⟨fun e he hnone => ?_, fun e he hnone => ?_⟩
        · have hnot := htimed e he
          rw [(eligible_iff s e.slot).2 hnone] at hnot
          cases hnot
        · have hnot := huntimed e he
          rw [(eligible_iff s e.slot).2 hnone] at hnot
          cases hnot

theorem laneNext_eq_none_iff (s : State) (k : Lane) : laneNext s k = none ↔ LaneBlocked s k :=
  ⟨laneBlocked_of_laneNext, fun h => laneNext_none (fun x hx hfree => h.untimed x hx hfree.2) h.timed h.untimed⟩

/-- R160, R161: UP and with a free line, lane l has no eligible entry. -/
def LaneServed (l : Fin 4) (s : State) : Prop :=
  s.lanes[l].up = true → s.lanes[l].tx = none → LaneBlocked s s.lanes[l]

/-- No more entries, the line no more often free, and no record less of its own slots. -/
theorem LaneServed.mono {l : Fin 4} {s t : State} (h : LaneServed l s) (hown : LaneOwn l s.lanes[l])
    (htimed : ∀ e ∈ t.lanes[l].timed, e ∈ s.lanes[l].timed)
    (huntimed : ∀ e ∈ t.lanes[l].untimed, ∃ x ∈ s.lanes[l].untimed, x.slot = e.slot)
    (hfree : t.lanes[l].up = true → t.lanes[l].tx = none → s.lanes[l].up = true ∧ s.lanes[l].tx = none)
    (hout : ∀ u : Fin 96, slotLane u = l → t.outstanding[u] = none → s.outstanding[u] = none) : LaneServed l t := by
  intro hup htx
  obtain ⟨hup, htx⟩ := hfree hup htx
  have hblocked := h hup htx
  refine ⟨fun e he hnone => ?_, fun e he hnone => ?_⟩
  · have hold := htimed e he
    exact hblocked.timed e hold (hout _ (hown.timed e hold) hnone)
  · obtain ⟨x, hx, hslot⟩ := huntimed e he
    refine hblocked.untimed x hx (hout _ (hown.untimed x hx) ?_)
    simp only [hslot]
    exact hnone

/-- What a lane that is not touched keeps. -/
theorem LaneServed.untouched {l : Fin 4} {s t : State} (h : LaneServed l s) (hown : LaneOwn l s.lanes[l])
    (hlane : t.lanes[l] = s.lanes[l])
    (hout : ∀ u : Fin 96, slotLane u = l → t.outstanding[u] = none → s.outstanding[u] = none) : LaneServed l t := by
  refine h.mono hown (fun e he => ?_) (fun e he => ⟨e, ?_, rfl⟩) (fun hup htx => ?_) hout
  · rwa [hlane] at he
  · rwa [hlane] at he
  · rw [hlane] at hup htx
    exact ⟨hup, htx⟩

theorem LaneServed.of_down {l : Fin 4} {s : State} (h : s.lanes[l].up = false) : LaneServed l s := fun hup => by
  rw [h] at hup
  cases hup

theorem LaneServed.of_empty {l : Fin 4} {s : State} (htimed : s.lanes[l].timed = [])
    (huntimed : s.lanes[l].untimed = []) : LaneServed l s := by
  refine fun _ _ => ⟨fun e he => ?_, fun e he => ?_⟩
  · rw [htimed] at he; cases he
  · rw [huntimed] at he; cases he

/-- R160: every lane holds entries of its own slots, and every lane but l is served: what holds before the arbiter of
lane l chooses. -/
structure ServedBut (l : Fin 4) (s : State) : Prop where
  own : ∀ m : Fin 4, LaneOwn m s.lanes[m]
  served : ∀ m : Fin 4, m ≠ l → LaneServed m s

namespace ServedBut

theorem of_eq {l : Fin 4} {s t : State} (hs : ServedBut l s) (hlanes : t.lanes = s.lanes)
    (hout : t.outstanding = s.outstanding) : ServedBut l t := by
  refine ⟨fun m => ?_, fun m hm => ?_⟩
  · rw [hlanes]; exact hs.own m
  · unfold LaneServed
    rw [hlanes]
    exact fun hup htx => ⟨fun e he => by rw [hout]; exact ((hs.served m hm) hup htx).timed e he,
      fun e he => by rw [hout]; exact ((hs.served m hm) hup htx).untimed e he⟩

theorem counts {l : Fin 4} {s u : State} (h : OnlyCounts s u) (hs : ServedBut l s) : ServedBut l u := by
  rw [h]; exact hs.of_eq rfl rfl

/-- Whatever lane l becomes. -/
theorem setLane {l : Fin 4} {k : Lane} {s : State} (hs : ServedBut l s) (hk : LaneOwn l k) :
    ServedBut l (setLane l k s) := by
  refine ⟨fun m => ?_, fun m hm => (hs.served m hm).untouched (hs.own m) (setLane_get_ne l m k s hm) fun u _ h => h⟩
  rw [setLane_lanes_get]
  split
  · rename_i hm; rw [hm]; exact hk
  · exact hs.own m

/-- Whatever the record of a slot of lane l becomes. -/
theorem setOutstanding {t : Fin 96} {r : Option OutRecord} {s : State} (hs : ServedBut (slotLane t) s) :
    ServedBut (slotLane t) (setOutstanding t r s) := by
  refine ⟨hs.own, fun m hm => (hs.served m hm).untouched (hs.own m) rfl fun u hu h => ?_⟩
  have hut : u ≠ t := fun he => hm (by rw [← hu, he])
  rwa [setOutstanding_get_ne _ _ _ _ hut] at h

/-- R125: a record that enters makes no entry eligible. -/
theorem record {l : Fin 4} (t : Fin 96) (r : OutRecord) {s : State} (hs : ServedBut l s) :
    ServedBut l (Machine.setOutstanding t (some r) s) := by
  refine ⟨hs.own, fun m hm => (hs.served m hm).untouched (hs.own m) rfl fun u hu h => ?_⟩
  by_cases hut : u = t
  · rw [hut, setOutstanding_get] at h
    cases h
  · rwa [setOutstanding_get_ne _ _ _ _ hut] at h

theorem channelStep {t : Fin 96} {k : SentKind} {s u : State} (h : ChannelStep t k s u)
    (hs : ServedBut (slotLane t) s) : ServedBut (slotLane t) u := by
  obtain ⟨hout, hlanes | hlanes⟩ := h.lanes
  · exact hs.of_eq hlanes hout
  · refine of_eq (s := flushTimed t s) (hs.setLane ?_) hlanes hout
    exact (hs.own _).mono (fun e he => (List.mem_filter.1 he).1) fun e he => ⟨e, he, rfl⟩

end ServedBut

namespace LanesBusy

theorem own {s : State} (hs : LanesBusy s) (l : Fin 4) : LaneOwn l s.lanes[l] := ⟨hs.timedOn l, hs.untimedOn l⟩

theorem served {s : State} (hs : LanesBusy s) (l : Fin 4) : LaneServed l s := fun hup htx =>
  (laneNext_eq_none_iff s s.lanes[l]).1 (hs.free l hup htx)

theorem of_served {s : State} (hown : ∀ l : Fin 4, LaneOwn l s.lanes[l]) (hserved : ∀ l : Fin 4, LaneServed l s) :
    LanesBusy s :=
  ⟨fun l => (hown l).timed, fun l => (hown l).untimed, fun l hup htx =>
    (laneNext_eq_none_iff s s.lanes[l]).2 (hserved l hup htx)⟩

theorem but {s : State} (hs : LanesBusy s) (l : Fin 4) : ServedBut l s := ⟨hs.own, fun m _ => hs.served m⟩

theorem of_but {l : Fin 4} {s : State} (hs : ServedBut l s) (h : LaneServed l s) : LanesBusy s :=
  of_served hs.own fun m => by
    by_cases hm : m = l
    · rw [hm]; exact h
    · exact hs.served m hm

theorem of_eq {s t : State} (hs : LanesBusy s) (hlanes : t.lanes = s.lanes) (hout : t.outstanding = s.outstanding) :
    LanesBusy t := by
  have hbut : ∀ l, ServedBut l t := fun l => (hs.but l).of_eq hlanes hout
  exact of_served (hbut 0).own fun m => by
    by_cases hm : m = 0
    · exact (hbut 1).served m (by rw [hm]; decide)
    · exact (hbut 0).served m hm

theorem counts {s u : State} (h : OnlyCounts s u) (hs : LanesBusy s) : LanesBusy u := by
  rw [h]; exact hs.of_eq rfl rfl

/-- R160: the arbiter's choice serves its lane. -/
theorem laneChoose {l : Fin 4} {s : State} (hs : ServedBut l s) : LanesBusy (laneChoose l s) := by
  by_cases hbusy : s.lanes[l].up = false ∨ s.lanes[l].tx.isSome = true
  · rw [laneChoose_of_down_or_busy hbusy]
    refine of_but hs fun hup htx => ?_
    rw [hup, htx] at hbusy
    rcases hbusy with h | h <;> cases h
  · have hup : s.lanes[l].up = true := by simpa using fun h => hbusy (.inl h)
    have htx : s.lanes[l].tx = none := by simpa using fun h => hbusy (.inr h)
    cases hnext : laneNext s s.lanes[l] with
    | none =>
      rw [laneChoose_of_no_next hup htx hnext]
      exact of_but hs fun _ _ => laneBlocked_of_laneNext hnext
    | some x =>
      obtain ⟨f, timed, untimed⟩ := x
      obtain ⟨htimed, huntimed⟩ := laneNext_sublist hnext
      rw [laneChoose_of_next hup htx hnext]
      refine of_but (hs.setLane ((hs.own l).mono (fun e he => htimed.subset he) fun e he =>
        ⟨e, huntimed.subset he, rfl⟩)) fun _ hnone => ?_
      rw [setLane_get] at hnone
      cases hnone

theorem laneSteps : LaneSteps LanesBusy where
  counts _ _ h hs := hs.counts h
  receive l rx n s _ hs := by
    have hset := (hs.but l).setLane (k := { s.lanes[l] with rx := rx, linkErrors := n }) ((hs.own l).same rfl rfl)
    have hget := setLane_get l { s.lanes[l] with rx := rx, linkErrors := n } s
    refine of_but hset ((hs.served l).mono (hs.own l) (fun e he => ?_) (fun e he => ⟨e, ?_, rfl⟩) (fun hup htx => ?_)
      fun u _ h => h)
    · rwa [hget] at he
    · rwa [hget] at he
    · rw [hget] at hup htx
      exact ⟨hup, htx⟩
  empty l s hs := by
    refine of_served (fun m => ?_) fun m => ?_
    · rw [laneEmpty_lanes_get]
      split
      · exact LaneOwn.of_empty rfl rfl
      · exact hs.own m
    · by_cases hm : m = l
      · refine LaneServed.of_down ?_
        rw [laneEmpty_lanes_get, if_pos hm]
        rfl
      · refine (hs.served m).untouched (hs.own m) ?_ fun u hu hnone => ?_
        · rw [laneEmpty_lanes_get, if_neg hm]
        · rwa [laneEmpty_outstanding_get, if_neg (fun h => hm (hu.symm.trans h))] at hnone
  up l s u _ hcounts hs := by
    have hset := (hs.but l).setLane (k := { s.lanes[l] with up := true, training := false, linkErrors := 0 })
      ((hs.own l).same rfl rfl)
    exact laneChoose ((hset.of_eq rfl rfl : ServedBut l (laneUp l s)).counts hcounts)
  answered a r s u _ hcounts hs := by
    have hremoved : ServedBut (slotLane a.slot) u := ((hs.but _).setOutstanding).counts hcounts
    refine laneChoose ?_
    rw [distribute_onlyDelivery a r.kind u]
    exact (hremoved.channelStep (channelStatus_step a.slot r.kind a.status u)).of_eq rfl rfl
  expired t r s _ hs := laneChoose ((hs.but _).setOutstanding.channelStep (channelExpiry_step t r.kind _))
  sent l x s u hx hcounts hs := by
    have hset := (hs.but l).setLane (k := { s.lanes[l] with tx := none }) ((hs.own l).same rfl rfl)
    have hu : ServedBut l u := hset.counts hcounts
    refine laneChoose ?_
    split
    · exact hu.record _ _
    · exact hu

theorem handOver (e : TimedEntry) (s : State) (hs : LanesBusy s) : LanesBusy (handOver e s) := by
  unfold Machine.handOver
  split
  · refine laneChoose ?_
    have hjoined := (hs.but (slotLane e.slot)).setLane (hs.own _).joined
    unfold joinTimed
    dsimp only
    split
    · exact hjoined.counts ((incr_only _ _).trans (raise_only _ _ _))
    · exact hjoined
  · exact hs

theorem passClosed : PassClosed LanesBusy where
  pass _ _ hs := hs.of_eq rfl rfl
  overrun s hs := hs.counts (raise_only _ _ s)
  count i s hs := hs.counts (incr_only i s)
  parity ws s hs := hs.counts (checkParity_only .h ws s)
  handOver := handOver
  request b op s hs := by rw [request_only b op s]; exact hs.of_eq rfl rfl
  apply _ hs := hs.of_eq rfl rfl
  clear _ hs := hs.of_eq rfl rfl
  push _ hs := hs.of_eq rfl rfl
  expire s _ hs := by
    have hget : ∀ l : Fin 4, (Machine.expire s).lanes[l] = _ := markAged_lanes_get s
    have huntimed : ∀ l : Fin 4, ∀ e ∈ (Machine.expire s).lanes[l].untimed, ∃ x ∈ s.lanes[l].untimed, x.slot = e.slot :=
      fun l e he => by
        rw [hget] at he
        obtain ⟨x, hx, rfl⟩ := List.mem_map.1 he
        exact ⟨x, hx, rfl⟩
    refine of_served (fun l => ?_) fun l => ?_
    · refine (hs.own l).mono (fun e he => ?_) (huntimed l)
      rwa [hget] at he
    · refine (hs.served l).mono (hs.own l) (fun e he => ?_) (huntimed l) (fun hup htx => ?_) fun u _ h => h
      · rwa [hget] at he
      · rw [hget] at hup htx
        exact ⟨hup, htx⟩

theorem channel {c : Instr} (hfamily : family c = .channel) (s : State) (hs : LanesBusy s) :
    LanesBusy (effect c s) := by
  have hphase : ∀ f ph u, LanesBusy u → LanesBusy (setPhase f ph u) := fun f ph u hu => hu.of_eq rfl rfl
  have hset : ∀ f ph t c, LanesBusy (setPhase f ph (setChannel t c s)) := fun f ph t c => hs.of_eq rfl rfl
  cases c with
  | startSlot =>
    refine onTaken_keeps hs fun f _ => withArg_keeps (fun _ => hphase f _ s hs) fun t => ?_
    rcases startChannel_cases t f s with ⟨r, -, h⟩ | ⟨-, -, h⟩ | ⟨-, h⟩ <;> rw [h]
    · exact hphase f _ s hs
    · exact hset f _ t _
    · have hchannel : LanesBusy (setChannel t (Channel.at .probe) s) := hs.of_eq rfl rfl
      exact hphase f _ _ (hchannel.counts (raise_only _ _ _))
  | haltSlot =>
    refine onTaken_keeps hs fun f _ => withArg_keeps (fun _ => hphase f _ s hs) fun t => ?_
    rcases haltChannel_cases t f s with ⟨r, -, h⟩ | h | ⟨-, -, h⟩ <;> rw [h]
    · exact hphase f _ s hs
    · exact hphase f _ s hs
    · have hchannel : LanesBusy (setChannel t ⟨.halting, 0, none⟩ s) := hs.of_eq rfl rfl
      rw [enterHalting_eq]
      exact hphase f _ _ (laneChoose ((hchannel.but _).setLane (hs.own _).halted))
  | releaseSlot =>
    refine onTaken_keeps hs fun f _ => withArg_keeps (fun _ => hphase f _ s hs) fun t => ?_
    rcases releaseChannel_cases t f s with ⟨r, -, h⟩ | h | ⟨-, h⟩ <;> rw [h]
    · exact hphase f _ s hs
    · exact hphase f _ s hs
    · exact hset f _ t _
  | laneReset =>
    exact onTaken_keeps hs fun f _ => withArg_keeps (fun _ => hphase f _ s hs) fun l =>
      laneSteps.actLaneReset l f s hs hphase
  | _ => cases hfamily

theorem restart (f : MgmtFrame) (s : State) : LanesBusy (actRestart f s) := by
  refine actRestart_keeps (Q := LanesBusy) ?_ passClosed.restartPass fun u hu => ?_
  · unfold restarted
    have hempty : ∀ l : Fin 4, (restartedLanes s)[l].timed = [] ∧ (restartedLanes s)[l].untimed = [] := fun l => by
      rw [TrafficConsistent.restartedLanes_get]
      exact ⟨rfl, rfl⟩
    exact of_served (fun l => LaneOwn.of_empty (hempty l).1 (hempty l).2) fun l =>
      LaneServed.of_empty (hempty l).1 (hempty l).2
  · rw [restartDump_only u]; exact hu.of_eq rfl rfl

theorem effect (c : Instr) (s : State) (hs : LanesBusy s) : LanesBusy (effect c s) := by
  cases h : family c with
  | reset => rw [effect_of_reset h]; exact hs
  | port => rw [effect_onlyPorts h s]; exact hs.of_eq rfl rfl
  | lane => exact laneSteps.effect h s hs
  | pass => exact passClosed.effect h s hs
  | storeUse => rw [effect_onlyStoreUse h s]; exact hs.of_eq rfl rfl
  | setting => rw [effect_onlySettings h s]; exact hs.of_eq rfl rfl
  | reading => rw [effect_onlyReads h s]; exact hs.of_eq rfl rfl
  | tapAccess => rw [effect_onlyTapAccess h s]; exact hs.of_eq rfl rfl
  | portWrite => rw [effect_onlyPortWrite h s]; exact hs.of_eq rfl rfl
  | channel => exact channel h s hs
  | restart => exact effect_restart_keeps h hs fun f _ => restart f s
  | reply => rw [effect_onlyReturn h s]; exact hs.of_eq rfl rfl

theorem of_reset {b : Bool} {s : State} (h : ∀ l : Fin 4, s.lanes[l] = Lane.reset b) : LanesBusy s :=
  of_served (fun l => by rw [h]; exact LaneOwn.of_empty rfl rfl) fun l =>
    LaneServed.of_empty (by rw [h]; rfl) (by rw [h]; rfl)

theorem reset : LanesBusy State.reset := of_reset reset_lanes

theorem release (s : State) (hs : LanesBusy s) : LanesBusy (releaseReset s) := by
  have hget := releaseReset_lanes s
  refine of_served (fun l => ?_) fun l => ?_
  · rw [hget]
    exact (hs.own l).same rfl rfl
  · refine (hs.served l).mono (hs.own l) (fun e he => ?_) (fun e he => ⟨e, ?_, rfl⟩) (fun hup htx => ?_) fun u _ h => h
    · rwa [hget] at he
    · rwa [hget] at he
    · rw [hget] at hup htx
      exact ⟨hup, htx⟩

theorem step {s t : State} (h : step s = .next t) (hs : LanesBusy s) : LanesBusy t :=
  step_keeps_of_effect (fun _ _ hs => hs.of_eq rfl rfl) (fun s => of_reset (heldInReset_lanes s)) release
    (fun s hs => by rw [returnChoose_only s]; exact hs.of_eq rfl rfl) effect h hs

end LanesBusy

/-- Settles O60: each of the five predicates is kept by every command's effect. -/
theorem stepKeepsPortsLanesArbiters : Obligations.StepKeepsPortsLanesArbiters := by
  unfold Obligations.StepKeepsPortsLanesArbiters
  exact fun s t h => ⟨PortsLegal.step h, LanesLegal.step h, BanksBusy.step h, ReturnBusy.step h, LanesBusy.step h⟩

/-- Settles O56: the reset state is the first case of each invariant's induction. -/
theorem resetMeetsInvariants : Obligations.ResetMeetsInvariants := by
  unfold Obligations.ResetMeetsInvariants
  obtain ⟨hchannels, henabled⟩ := (channelsFit_iff _).1 ChannelsFit.reset
  obtain ⟨htables, hkeys⟩ := TablesLegal.reset
  exact ⟨StoresCanonical.reset, QueuesBounded.reset, TrafficConsistent.reset, hchannels, GainLegal.reset,
    NoticesLegal.reset, PlanHolds.reset, htables, hkeys, henabled, PortsLegal.reset, BanksBusy.reset, ReturnBusy.reset,
    LanesBusy.reset, LanesLegal.reset, DeviceLegal.reset⟩

end Machine
end Sys2Proof

namespace Sys2Proof
namespace Machine

/-- A live command whose effect is u ends in what the return arbiter leaves of u. -/
theorem exec_of_effect {c : Instr} {s u : State} (hawake : s.resetHeld = false) (heffect : effect c s = u)
    (hreset : c ≠ .powerOnReset := by intro h; cases h) (hrelease : c ≠ .resetRelease := by intro h; cases h) :
    exec c s = .next (returnChoose u) := by
  rw [exec_awake hawake hreset hrelease, heffect]

/-! ### The moves of a sense port on a known receiver (chapter 2) -/

theorem Port.cleared_dark (q : Port) : q.cleared .dark = darkPort q.rate := rfl
theorem Port.cleared_off (q : Port) : q.cleared .off = offPort q.rate := rfl

theorem Port.active_of_qualifying {q : Port} (h : q.mode = .qualifying) : q.active = true :=
  (Port.active_iff q).2 (.inl h)

theorem Port.active_of_passing {q : Port} (h : q.mode = .passing) : q.active = true :=
  (Port.active_iff q).2 (.inr h)

theorem Port.active_of_idle {q : Port} (h : q.mode = .off ∨ q.mode = .dark) : q.active = false := by
  rw [← Bool.not_eq_true, Port.active_iff]
  rcases h with h | h <;> rw [h] <;> decide

section Moves
variable (p : Fin 8) (q : Port) (u : State)

/-- R39, R40: entry to DARK or OFF. -/
theorem portLeave_setPort (m : PortMode) : portLeave p m (setPort p q u) =
    setPort p (q.cleared m) (if q.mode = .passing then raise .portDown p.1 u else u) := by
  simp only [portLeave, setPort_get, setPort_setPort, raise_setPort]
  exact (apply_ite (setPort p (q.cleared m)) _ _ _).symm

/-- R38: a link error of a port that takes frames. -/
theorem portLinkError_setPort (hactive : q.active = true) : portLinkError p (setPort p q u) =
    if u.portTable[p].errorThreshold ≤ q.linkErrors + 1 then
      setPort p (darkPort q.rate) (if q.mode = .passing then raise .portDown p.1 u else u)
    else setPort p { q with linkErrors := q.linkErrors + 1 } u := by
  simp only [portLinkError, setPort_get, setPort_setPort, setPort_portTable, if_pos hactive, portLeave_setPort,
    Port.cleared_dark]

/-- R34, R40: entry to PASSING. -/
theorem portTryPass_setPort : portTryPass p (setPort p q u) =
    if q.mode = .qualifying ∧ canPass u.portTable[p] q = true then
      setPort p { q with mode := .passing } (raise .portUp p.1 u)
    else setPort p q u := by
  simp only [portTryPass, setPort_get, setPort_setPort, setPort_portTable, raise_setPort]

/-- R36, R40: back to QUALIFYING. -/
theorem portRequalify_setPort : portRequalify p (setPort p q u) =
    setPort p { q with mode := .qualifying, run := 0 } (raise .portDown p.1 u) := by
  simp only [portRequalify, setPort_get, setPort_setPort, raise_setPort]

/-- R35, R36: what a damaged frame does to a port that takes frames. -/
theorem portDamagedEffect_setPort : portDamagedEffect p (setPort p q u) =
    if q.mode = .qualifying then setPort p { q with run := 0 } u
    else if q.mode = .passing ∧ u.portTable[p].strict = true then
      setPort p { q with mode := .qualifying, run := 0 } (raise .portDown p.1 u)
    else setPort p q u := by
  simp only [portDamagedEffect, setPort_get, setPort_setPort, setPort_portTable, portRequalify_setPort]
  cases q.mode <;> simp

/-- R25: a frame opens. -/
theorem portOpenFrame_setPort (hactive : q.active = true) : portOpenFrame p (setPort p q u) =
    setPort p { q with rx := some ⟨[], false⟩ } u := by
  simp only [portOpenFrame, setPort_get, setPort_setPort, if_pos hactive]

/-- R34, R36, R37, R38, R41: a valid management frame. -/
theorem portValidEffect_mgmt_setPort : portValidEffect p false (setPort p q u) =
    setPort p { q with watchdog := some u.portTable[p].watchdogSpan, linkErrors := 0 } u := by
  simp [portValidEffect, Port.startWatchdog]

/-- R34, R36, R37, R38, R41: a valid SAMPLE frame. -/
theorem portValidEffect_sample_setPort : portValidEffect p true (setPort p q u) =
    portTryPass p (setPort p
      { q with watchdog := some u.portTable[p].watchdogSpan, linkErrors := 0, run := min 15 (q.run + 1),
               gate := q.gate.map (fun f => min 4095 (f + 1)) } u) := by
  simp [portValidEffect, Port.startWatchdog]

/-- R25, R30: a frame's end on a known receiver: the counts, then the effect of its class, then the delivery. -/
theorem portFrameEnd_setPort (f : RxFrame) (b : Bool) : portFrameEnd p f b (setPort p q u) =
    portDeliver p (portClass p f b) f (portClassEffect p (portClass p f b) f (setPort p { q with rx := none }
      (incr (.port p (portClass p f b).portCtr) (incr (.port p .received) u)))) := by
  simp only [portFrameEnd, setPort_get, setPort_setPort, incr_setPort]

end Moves

/-! ### Lock, watchdog and rate gates (R33 to R43) -/

/-- R42: the measured rate and the stable run at a gate's end, as R42 gives them. -/
theorem gateMeasure_eq (e : PortEntry) (q : Port) (f : Nat) : gateMeasure e q f =
    { q with
      rate := if e.rateHysteresis < ((f : Int) - q.rate).natAbs then f else q.rate
      stableRun := if e.rateHysteresis < ((f : Int) - q.rate).natAbs then 0 else min 4 (q.stableRun + 1)
      stable := decide (e.stableGates ≤
        if e.rateHysteresis < ((f : Int) - q.rate).natAbs then 0 else min 4 (q.stableRun + 1)) } := by
  have hiff : (e.rateHysteresis < f - q.rate ∨ e.rateHysteresis < q.rate - f) ↔
      e.rateHysteresis < ((f : Int) - q.rate).natAbs := by omega
  unfold gateMeasure
  by_cases h : e.rateHysteresis < ((f : Int) - q.rate).natAbs
  · simp only [if_pos (hiff.2 h), if_pos h]
  · simp only [if_neg (mt hiff.1 h), if_neg h]

theorem canPass_iff (e : PortEntry) (q : Port) :
    canPass e q = true ↔ e.passThreshold ≤ q.run ∧ q.stable = true ∧ e.minRate ≤ q.rate := by
  simp [canPass, and_assoc]

/-- Settles O5: each report and each timer by the port's mode. -/
theorem portLockAndTimers : Obligations.PortLockAndTimers := by
  unfold Obligations.PortLockAndTimers
  intro p s hawake
  dsimp only
  have hself : setPort p s.ports[p] s = s := setPort_self p s
  refine ⟨fun hdark => exec_of_effect hawake ?lock, fun hother => exec_of_effect hawake ?nolock,
    fun hpassing => exec_of_effect hawake ?lossPassing, fun hqualifying => exec_of_effect hawake ?lossQualifying,
    fun hidle => exec_of_effect hawake ?lossIdle, fun w hw => ⟨fun hqualifying => exec_of_effect hawake ?dogQualifying,
      fun hpassing => exec_of_effect hawake ?dogPassing⟩,
    fun f hf => ⟨fun hqualifying => exec_of_effect hawake ?gateQualifying,
      fun hpassing => exec_of_effect hawake ?gatePassing⟩⟩
  case lock => exact if_pos hdark
  case nolock => exact if_neg hother
  case lossPassing =>
    refine (if_pos (Port.active_of_passing hpassing)).trans ?_
    rw [← hself, portLeave_setPort, if_pos hpassing, hself, raise_setPort, Port.cleared_dark]
  case lossQualifying =>
    refine (if_pos (Port.active_of_qualifying hqualifying)).trans ?_
    rw [← hself, portLeave_setPort, if_neg (by rw [hqualifying]; decide), hself, Port.cleared_dark]
  case lossIdle => exact if_neg (by rw [Port.active_of_idle hidle]; decide)
  case dogQualifying =>
    change portWatchdogExpiry p s = _
    simp only [portWatchdogExpiry, hw, hqualifying, setPort_get, setPort_setPort, Port.startWatchdog]
  case dogPassing =>
    change portWatchdogExpiry p s = _
    simp only [portWatchdogExpiry, hw, hpassing, portRequalify_setPort, raise_setPort, Port.startWatchdog]
  case gateQualifying =>
    change portRateGateEnd p s = _
    simp only [portRateGateEnd, hf, hqualifying, gateMeasure_eq, portTryPass_setPort, canPass_iff, raise_setPort,
      decide_eq_true_eq, true_and]
  case gatePassing =>
    change portRateGateEnd p s = _
    simp only [portRateGateEnd, hf, hpassing, gateMeasure_eq, setPort_portTable, portRequalify_setPort, raise_setPort,
      decide_eq_true_eq]

end Machine
end Sys2Proof

namespace Sys2Proof
namespace Machine

/-! ### The words of a header, and the checks of a frame's length and CRC (R27, R128, R194, R195) -/

section Header
variable {k a n : Nat} (hk : k < 16) (ha : a < 128) (hn : n < 32)
include hk ha hn

theorem header_toNat : (header k a n).toNat = k * 4096 + a * 32 + n := by
  simp only [header, mkWord, BitVec.toNat_ofNat]
  omega

theorem headerKind_header : headerKind (header k a n) = k := by
  simp only [headerKind, bits, header_toNat hk ha hn]
  omega

theorem headerAddress_header : headerAddress (header k a n) = a := by
  simp only [headerAddress, bits, header_toNat hk ha hn]
  omega

theorem headerLength_header : headerLength (header k a n) = n := by
  simp only [headerLength, bits, header_toNat hk ha hn]
  omega

end Header

/-- R195: a frame of words and one more matches where that one is the CRC over the others. -/
theorem crcMatches_append (body : List Word) (c : Word) : crcMatches (body ++ [c]) = decide (c = crc16 body) := by
  simp [crcMatches, beq_eq_decide]

/-- R27 checks 2 to 4, R128 checks 2 to 4: what becomes of a frame whose header passes and gives payload length n; `ok`
is what it is where every one of them passes. -/
def lengthClass (n : Nat) (f : RxFrame) (byStart : Bool) (ok : FrameClass) : FrameClass :=
  if n + 2 < f.words.length then .babble
  else if f.words.length < n + 2 || byStart then .short
  else if !crcMatches f.words || f.marked then .damaged
  else ok

section LengthClass
variable {body : List Word} {n : Nat} (hlength : body.length = n + 1) (ok : FrameClass)
include hlength

theorem lengthClass_babble {ws : List Word} (hws : ws ≠ []) (m b : Bool) :
    lengthClass n ⟨withCrc body ++ ws, m⟩ b ok = .babble := by
  have hpos := List.length_pos_iff.2 hws
  refine if_pos ?_
  simp only [withCrc, List.length_append, List.length_singleton]
  omega

theorem lengthClass_short {k : Nat} (hk : k < body.length + 1) (m b : Bool) :
    lengthClass n ⟨(withCrc body).take k, m⟩ b ok = .short := by
  have hshort : ((withCrc body).take k).length < n + 2 := by
    rw [List.length_take]
    omega
  rw [lengthClass, if_neg (by dsimp only; omega), if_pos (by dsimp only; rw [decide_eq_true hshort, Bool.true_or])]

theorem lengthClass_byStart (c : Word) (m : Bool) : lengthClass n ⟨body ++ [c], m⟩ true ok = .short := by
  rw [lengthClass, if_neg, if_pos]
  · simp
  · simp only [List.length_append, List.length_singleton]
    omega

/-- A frame of the length that its header gives, ended by an end mark. -/
theorem lengthClass_whole (c : Word) (m : Bool) : lengthClass n ⟨body ++ [c], m⟩ false ok =
    if c = crc16 body ∧ m = false then ok else .damaged := by
  rw [lengthClass, if_neg, if_neg]
  · rw [crcMatches_append]
    by_cases hc : c = crc16 body <;> cases m <;> simp [hc]
  · simp only [List.length_append, List.length_singleton]
    simp [hlength]
  · simp only [List.length_append, List.length_singleton]
    omega

theorem lengthClass_withCrc (m : Bool) : lengthClass n ⟨withCrc body, m⟩ false ok = if m then .damaged else ok := by
  refine (lengthClass_whole hlength ok (crc16 body) m).trans ?_
  cases m <;> simp

theorem lengthClass_damaged {c : Word} (hc : c ≠ crc16 body) (m : Bool) :
    lengthClass n ⟨body ++ [c], m⟩ false ok = .damaged := by
  rw [lengthClass_whole hlength]
  exact if_neg fun h => hc h.1

end LengthClass

/-! ### The class of a frame at a sense port (R27) -/

/-- R27 check 1, as it reads on a header made of its parts. -/
theorem portHeaderOk_header {k a n : Nat} (hk : k < 16) (ha : a < 128) (hn : n < 32) :
    portHeaderOk (header k a n) = true ↔ (k = 1 ∧ a < 32) ∨ (2 ≤ k ∧ k ≤ 4 ∧ a = 0) := by
  simp only [portHeaderOk, headerKind_header hk ha hn, headerAddress_header hk ha hn, Bool.or_eq_true,
    Bool.and_eq_true, beq_iff_eq, decide_eq_true_eq]
  omega

theorem portClass_format {p : Fin 8} {k a n : Nat} (hk : k < 16) (ha : a < 128) (hn : n < 32)
    (h : (k = 0 ∨ 5 ≤ k) ∨ (k = 1 ∧ 32 ≤ a) ∨ (2 ≤ k ∧ k ≤ 4 ∧ (a ≠ 0 ∨ p ≠ 0))) (ws : List Word) (m b : Bool) :
    portClass p ⟨header k a n :: ws, m⟩ b = .format := by
  by_cases hok : portHeaderOk (header k a n) = true
  · have hp : 2 ≤ k ∧ p ≠ 0 := by
      have hparts := (portHeaderOk_header hk ha hn).1 hok
      rcases h with h | h | ⟨_, _, ha' | hp⟩
      · omega
      · omega
      · omega
      · exact ⟨by omega, hp⟩
    simp [portClass, hok, headerKind_header hk ha hn, hp]
  · simp [portClass, hok]

/-- R27: where the header passes its check, the length and the CRC decide. -/
theorem portClass_eq_lengthClass {p : Fin 8} {k a n : Nat} (h : (k = 1 ∧ a < 32) ∨ (2 ≤ k ∧ k ≤ 4 ∧ a = 0 ∧ p = 0))
    (hn : n < 32) (ws : List Word) (m b : Bool) :
    portClass p ⟨header k a n :: ws, m⟩ b = lengthClass n ⟨header k a n :: ws, m⟩ b .valid := by
  have hk : k < 16 := by omega
  have ha : a < 128 := by omega
  have hok : portHeaderOk (header k a n) = true := (portHeaderOk_header hk ha hn).2 (by omega)
  have hmgmt : (decide (2 ≤ k) && p != 0) = false := by
    rcases h with h | ⟨_, _, _, hp⟩
    · rw [decide_eq_false (by omega), Bool.false_and]
    · rw [hp, bne_self_eq_false, Bool.and_false]
  simp [portClass, lengthClass, hok, hmgmt, headerKind_header hk ha hn, headerLength_header hk ha hn]

/-- Settles O7: the header decides FORMAT, and the length and the CRC every other class. -/
theorem portFrameChecks : Obligations.PortFrameChecks := by
  unfold Obligations.PortFrameChecks
  refine ⟨fun p k a n ws m b hk ha hn h => portClass_format hk ha hn h ws m b, fun p k a xs h hxs => ?_⟩
  intro body
  have hlength : body.length = xs.length + 1 := rfl
  have hclass := fun ws m b => portClass_eq_lengthClass (p := p) h hxs ws m b
  refine ⟨?_, ?_, fun c m hc => ?_, fun ws m b hws => ?_, fun n m b hn => ?_, fun c m => ?_⟩
  · exact (hclass (xs ++ [crc16 body]) _ _).trans (lengthClass_withCrc hlength .valid false)
  · exact (hclass (xs ++ [crc16 body]) _ _).trans (lengthClass_withCrc hlength .valid true)
  · exact (hclass (xs ++ [c]) _ _).trans (lengthClass_damaged hlength .valid hc m)
  · exact (hclass (xs ++ [crc16 body] ++ ws) _ _).trans (lengthClass_babble hlength .valid hws m b)
  · cases n with
    | zero => rfl
    | succ n => exact (hclass ((xs ++ [crc16 body]).take n) _ _).trans (lengthClass_short hlength .valid hn m b)
  · exact (hclass (xs ++ [c]) _ _).trans (lengthClass_byStart hlength .valid c m)

end Machine
end Sys2Proof

namespace Sys2Proof
namespace Machine

/-! ### The end of a frame at a sense port (R25 to R30) -/

/-- R36: a port that is PASSING and strict leaves PASSING at a frame that fails a check but that of its header. -/
def leavesPassing (e : PortEntry) (cls : FrameClass) (q : Port) : Bool :=
  decide (q.mode = .passing ∧ e.strict = true ∧ cls ≠ .format)

/-- R27, R35, R36: the receiver q after a frame of a failing class. -/
def afterFailure (e : PortEntry) (cls : FrameClass) (q : Port) : Port := { q with
  rx := none
  mode := if leavesPassing e cls q then .qualifying else q.mode
  run := if cls ≠ .format ∧ (q.mode = .qualifying ∨ leavesPassing e cls q = true) then 0 else q.run }

section FrameEnd
variable {p : Fin 8} {q : Port} {u : State} {cls : FrameClass} {f : RxFrame}

/-- R27, R35, R36: the effect of a failing class on the port. -/
theorem portClassEffect_failing (hvalid : cls ≠ .valid) (hactive : q.active = true) :
    portClassEffect p cls f (setPort p { q with rx := none } u) = setPort p (afterFailure u.portTable[p] cls q)
      (if leavesPassing u.portTable[p] cls q then raise .portDown p.1 u else u) := by
  have hdamaged : cls ≠ .format → portDamagedEffect p (setPort p { q with rx := none } u) =
      setPort p (afterFailure u.portTable[p] cls q)
        (if leavesPassing u.portTable[p] cls q then raise .portDown p.1 u else u) := fun hformat => by
    rw [portDamagedEffect_setPort]
    generalize u.portTable[p] = e
    rcases (Port.active_iff q).1 hactive with hmode | hmode
    · simp [afterFailure, leavesPassing, hmode, hformat]
    · cases hstrict : e.strict <;> simp [afterFailure, leavesPassing, hmode, hformat, hstrict]
  unfold portClassEffect
  cases cls with
  | valid => exact absurd rfl hvalid
  | damaged | short | babble => exact hdamaged (by decide)
  | format => simp [afterFailure, leavesPassing]

/-- R28, R29: what is not delivered. -/
theorem portDeliver_nothing {s : State} (hvalid : cls ≠ .valid)
    (h : s.ports[p].mode = .passing → cls = .damaged → s.portTable[p].acceptDamaged = true →
      ∀ h, f.words.head? = some h → headerKind h ≠ 1) : portDeliver p cls f s = s := by
  unfold portDeliver
  split
  · rfl
  · rename_i w ws hwords
    split
    · rename_i hkind
      refine if_neg ?_
      rintro ⟨hmode, hclass | ⟨hclass, haccept⟩⟩
      · exact hvalid hclass
      · exact h hmode hclass haccept w (by rw [hwords]; rfl) hkind
    · rfl

/-- R28, R29: the samples of a SAMPLE frame, delivered or not. -/
theorem portDeliver_sample {s : State} {h c : Word} {xs : List Word} (hwords : f.words = h :: xs ++ [c])
    (hkind : headerKind h = 1) : portDeliver p cls f s =
      if s.ports[p].mode = .passing ∧ (cls = .valid ∨ (cls = .damaged ∧ s.portTable[p].acceptDamaged = true)) then
        deliverSamples p (headerAddress h) xs s
      else s := by
  unfold portDeliver
  rw [hwords]
  simp only [List.cons_append, if_pos hkind, List.dropLast_concat]

/-- R25: the end of a frame that fails a check and is not delivered. -/
theorem portFrameEnd_failing {b : Bool} (hclass : portClass p f b = cls) (hvalid : cls ≠ .valid)
    (hactive : q.active = true)
    (h : (afterFailure u.portTable[p] cls q).mode = .passing → cls = .damaged → u.portTable[p].acceptDamaged = true →
      ∀ h, f.words.head? = some h → headerKind h ≠ 1) :
    portFrameEnd p f b (setPort p q u) = setPort p (afterFailure u.portTable[p] cls q)
      (if leavesPassing u.portTable[p] cls q then
        raise .portDown p.1 (incr (.port p cls.portCtr) (incr (.port p .received) u))
      else incr (.port p cls.portCtr) (incr (.port p .received) u)) := by
  rw [portFrameEnd_setPort, hclass, portClassEffect_failing hvalid hactive]
  simp only [incr_portTable]
  refine portDeliver_nothing hvalid fun hmode hdamaged haccept => h ?_ hdamaged ?_
  · simpa using hmode
  · rw [setPort_portTable] at haccept
    split at haccept
    · simpa [-Fin.getElem_fin] using haccept
    · simpa [-Fin.getElem_fin] using haccept

end FrameEnd

theorem afterFailure_active {e : PortEntry} {cls : FrameClass} {q : Port} (h : q.active = true) :
    (afterFailure e cls q).active = true := by
  cases hleaves : leavesPassing e cls q
  · exact (Port.active_congr (by simp [afterFailure, hleaves])).trans h
  · exact Port.active_of_qualifying (by simp [afterFailure, hleaves])

theorem afterFailure_linkErrors (e : PortEntry) (cls : FrameClass) (q : Port) :
    (afterFailure e cls q).linkErrors = q.linkErrors := rfl

/-- R38: an entry to DARK raises PORT-DOWN once, by the failing frame or by the link error after it. -/
theorem leavesPassing_then_dark (e : PortEntry) (cls : FrameClass) (q : Port) (p : Fin 8) (u : State) :
    (if (afterFailure e cls q).mode = .passing then
      raise .portDown p.1 (if leavesPassing e cls q then raise .portDown p.1 u else u)
    else if leavesPassing e cls q then raise .portDown p.1 u else u) =
      if q.mode = .passing then raise .portDown p.1 u else u := by
  cases hleaves : leavesPassing e cls q
  · simp [afterFailure, hleaves]
  · have hmode : q.mode = .passing := (of_decide_eq_true hleaves).1
    simp [afterFailure, hleaves, hmode]

section StartMark
variable {p : Fin 8} {q : Port} {u : State} {f : RxFrame} {cls : FrameClass} (hrx : q.rx = some f)
  (hclass : portClass p f true = cls) (hvalid : cls ≠ .valid) (hdamaged : cls ≠ .damaged) (hactive : q.active = true)
include hrx hclass hvalid hdamaged hactive

/-- R26, R27: a misplaced start mark ends the frame being collected, then is a link error, then opens a frame. -/
theorem portStartMark_failing : portStartMark p (setPort p q u) =
    portOpenFrame p (portLinkError p (setPort p (afterFailure u.portTable[p] cls q)
      (if leavesPassing u.portTable[p] cls q then
        raise .portDown p.1 (incr (.port p cls.portCtr) (incr (.port p .received) u))
      else incr (.port p cls.portCtr) (incr (.port p .received) u)))) := by
  simp only [portStartMark, setPort_get, if_pos hactive, hrx]
  rw [portFrameEnd_failing hclass hvalid hactive fun _ h => absurd h hdamaged]

theorem portStartMark_toDark (hmany : u.portTable[p].errorThreshold ≤ q.linkErrors + 1) :
    portStartMark p (setPort p q u) = setPort p (darkPort q.rate)
      (if q.mode = .passing then raise .portDown p.1 (incr (.port p cls.portCtr) (incr (.port p .received) u))
       else incr (.port p cls.portCtr) (incr (.port p .received) u)) := by
  rw [portStartMark_failing hrx hclass hvalid hdamaged hactive,
    portLinkError_setPort _ _ _ (afterFailure_active hactive), leavesPassing_then_dark, if_pos]
  · exact if_neg (by rw [setPort_get]; exact Bool.false_ne_true)
  · rw [afterFailure_linkErrors]
    split <;> simpa [-Fin.getElem_fin] using hmany

theorem portStartMark_counts (hfew : q.linkErrors + 1 < u.portTable[p].errorThreshold) :
    portStartMark p (setPort p q u) = setPort p
      { afterFailure u.portTable[p] cls q with linkErrors := q.linkErrors + 1, rx := some ⟨[], false⟩ }
      (if leavesPassing u.portTable[p] cls q then
        raise .portDown p.1 (incr (.port p cls.portCtr) (incr (.port p .received) u))
      else incr (.port p cls.portCtr) (incr (.port p .received) u)) := by
  have hafter := afterFailure_active (e := u.portTable[p]) (cls := cls) hactive
  rw [portStartMark_failing hrx hclass hvalid hdamaged hactive, portLinkError_setPort _ _ _ hafter, if_neg]
  · exact portOpenFrame_setPort p _ _ hafter
  · have hfew' : ¬ u.portTable[p].errorThreshold ≤ q.linkErrors + 1 := by omega
    rw [afterFailure_linkErrors]
    split <;> simpa [-Fin.getElem_fin] using hfew'

end StartMark

theorem portCtr_of_failing {cls : FrameClass} {ctr : PortCtr}
    (h : (cls, ctr) ∈ [(FrameClass.damaged, PortCtr.damaged), (.short, .short), (.babble, .babble),
      (.format, .format)]) : cls.portCtr = ctr ∧ cls ≠ .valid := by
  simp only [List.mem_cons, Prod.mk.injEq, List.not_mem_nil, or_false] at h
  rcases h with ⟨rfl, rfl⟩ | ⟨rfl, rfl⟩ | ⟨rfl, rfl⟩ | ⟨rfl, rfl⟩ <;> decide

/-- Settles O6: by what the port is collecting, and by its link errors against the threshold. -/
theorem portMarksAndErrors : Obligations.PortMarksAndErrors := by
  unfold Obligations.PortMarksAndErrors
  intro p w s hawake q dark down
  have hself : setPort p q s = s := setPort_self p s
  have hdown : down = setPort p (darkPort q.rate) (if q.mode = .passing then raise .portDown p.1 s else s) := by
    simp only [down, dark, raise_setPort]
    exact (apply_ite (setPort p (darkPort q.rate)) _ _ _).symm
  refine ⟨fun hidle => ?idle, fun hmode => ?_⟩
  case idle =>
    have hnot : ¬ q.active = true := by rw [Port.active_of_idle hidle]; decide
    exact ⟨exec_of_effect hawake (if_neg hnot), exec_of_effect hawake (if_neg hnot),
      exec_of_effect hawake (if_neg hnot), exec_of_effect hawake (if_neg hnot)⟩
  have hactive : q.active = true := (Port.active_iff q).2 hmode
  have hmarked : ∀ x : Option RxFrame, { q with rx := x }.active = true := fun _ => hactive
  have hsymbol : portSymbolError p s = portLinkError p
      (setPort p { q with rx := q.rx.map (fun f => { f with marked := true }) } s) := if_pos hactive
  have hend : q.rx = none → portEndMark p s = portLinkError p (setPort p q s) := fun hrx => by
    rw [hself]
    simp only [portEndMark, if_pos (show s.ports[p].active = true from hactive), show s.ports[p].rx = none from hrx]
  refine ⟨fun hrx => ⟨exec_of_effect hawake ?start, exec_of_effect hawake ?noword⟩,
    fun f hrx => exec_of_effect hawake ?word,
    fun hmany => ⟨exec_of_effect hawake ?symbolMany, fun hrx => exec_of_effect hawake ?endMany⟩,
    fun hfew => ⟨exec_of_effect hawake ?symbolFew, fun hrx => exec_of_effect hawake ?endFew⟩,
    fun f cls ctr hrx hclass hmem => ?misplaced⟩
  case start =>
    refine (congrArg (portStartMark p) hself.symm).trans ?_
    simp only [portStartMark, setPort_get, if_pos hactive, hrx, portOpenFrame_setPort p q s hactive]
  case noword =>
    refine (if_pos hactive).trans ?_
    rw [show s.ports[p].rx = none from hrx, Option.map_none, ← hrx]
    exact hself
  case word =>
    refine (if_pos hactive).trans ?_
    rw [show s.ports[p].rx = some f from hrx]
    rfl
  case symbolMany => exact hsymbol.trans (by rw [portLinkError_setPort _ _ _ (hmarked _), if_pos hmany, hdown])
  case endMany => exact (hend hrx).trans (by rw [portLinkError_setPort _ _ _ hactive, if_pos hmany, hdown])
  case symbolFew =>
    exact hsymbol.trans (by rw [portLinkError_setPort _ _ _ (hmarked _), if_neg (by dsimp only; omega)])
  case endFew => exact (hend hrx).trans (by rw [portLinkError_setPort _ _ _ hactive, if_neg (by omega)])
  case misplaced =>
    intro counted leaves
    obtain ⟨hctr, hvalid⟩ := portCtr_of_failing (List.mem_cons_of_mem _ hmem)
    have hdamaged : cls ≠ .damaged := by
      rintro rfl
      simp at hmem
    refine ⟨fun hmany => exec_of_effect hawake ?_, fun hfew => exec_of_effect hawake ?_⟩
    · refine (congrArg (portStartMark p) hself.symm).trans ?_
      rw [portStartMark_toDark hrx hclass hvalid hdamaged hactive hmany, hctr]
    · refine (congrArg (portStartMark p) hself.symm).trans ?_
      rw [portStartMark_counts hrx hclass hvalid hdamaged hactive hfew, hctr]
      rfl

/-- R25, R26: an end mark ends the frame being collected. -/
theorem portEndMark_collecting {p : Fin 8} {s : State} {f : RxFrame} (hactive : s.ports[p].active = true)
    (hrx : s.ports[p].rx = some f) : portEndMark p s = portFrameEnd p f false (setPort p s.ports[p] s) := by
  rw [setPort_self]
  simp only [portEndMark, if_pos hactive, hrx]

/-- Settles O10: the effect of the class on the port decides whether a DAMAGED frame's samples are delivered. -/
theorem portFailingFrame : Obligations.PortFailingFrame := by
  unfold Obligations.PortFailingFrame
  intro p f cls ctr s hawake hrx hclass hmem counted q e
  obtain ⟨hctr, hvalid⟩ := portCtr_of_failing hmem
  have hend : s.ports[p].active = true →
      ((afterFailure e cls s.ports[p]).mode = .passing → cls = .damaged → e.acceptDamaged = true →
        ∀ h, f.words.head? = some h → headerKind h ≠ 1) →
      portEndMark p s = setPort p (afterFailure e cls s.ports[p])
        (if leavesPassing e cls s.ports[p] then raise .portDown p.1 counted else counted) := fun hactive h => by
    rw [portEndMark_collecting hactive hrx, portFrameEnd_failing hclass hvalid hactive h, hctr]
  refine ⟨fun hmode => exec_of_effect hawake ?qualifying, fun hmode hstrict hformat => exec_of_effect hawake ?strict,
    fun hmode hkeeps hnot => exec_of_effect hawake ?kept,
    fun hmode hstrict haccept hdamaged node xs c hnode hxs hwords => exec_of_effect hawake ?delivered⟩
  case qualifying =>
    have hleaves : leavesPassing e cls s.ports[p] = false := by simp [-Fin.getElem_fin, leavesPassing, hmode]
    refine (hend (Port.active_of_qualifying hmode) fun h => ?_).trans ?_
    · simp [-Fin.getElem_fin, afterFailure, hleaves, hmode] at h
    · simp only [afterFailure, hleaves, hmode]
      by_cases hformat : cls = .format <;> simp [-Fin.getElem_fin, hformat, q, hmode]
  case strict =>
    have hleaves : leavesPassing e cls s.ports[p] = true := decide_eq_true ⟨hmode, hstrict, hformat⟩
    refine (hend (Port.active_of_passing hmode) fun h => ?_).trans ?_
    · simp [-Fin.getElem_fin, afterFailure, hleaves] at h
    · simp [-Fin.getElem_fin, afterFailure, hleaves, hformat, raise_setPort, q]
  case kept =>
    have hleaves : leavesPassing e cls s.ports[p] = false := by
      rcases hkeeps with h | h <;> simp [leavesPassing, h]
    refine (hend (Port.active_of_passing hmode) fun _ hdamaged haccept => ?_).trans ?_
    · rcases hnot with h | h | h
      · exact absurd hdamaged h
      · rw [haccept] at h; cases h
      · exact h
    · simp [-Fin.getElem_fin, afterFailure, hleaves, hmode, q]
  case delivered =>
    have hleaves : leavesPassing e cls s.ports[p] = false := by simp [leavesPassing, hstrict]
    have hafter : afterFailure e cls s.ports[p] = q := by simp [-Fin.getElem_fin, afterFailure, hleaves, hmode, q]
    refine (portEndMark_collecting (Port.active_of_passing hmode) hrx).trans ?_
    rw [portFrameEnd_setPort, hclass, portClassEffect_failing hvalid (Port.active_of_passing hmode), hctr]
    change portDeliver p cls f (setPort p (afterFailure counted.portTable[p] cls s.ports[p])
      (if leavesPassing counted.portTable[p] cls s.ports[p] then raise .portDown p.1 counted else counted)) = _
    have htable : counted.portTable[p] = e := by simp only [counted, incr_portTable, e]
    rw [htable, hafter, hleaves, portDeliver_sample hwords (headerKind_header (by decide) (by omega) hxs),
      headerAddress_header (by decide) (by omega) hxs]
    rw [if_neg Bool.false_ne_true, setPort_get, setPort_portTable, htable]
    exact if_pos ⟨hmode, .inr ⟨hdamaged, haccept⟩⟩

/-! ### Valid frames at a sense port (R28, R34, R50, R164) -/

/-- R27: a frame as sent, of a header that passes, is valid. -/
theorem portClass_valid {p : Fin 8} {k a : Nat} {xs : List Word}
    (h : (k = 1 ∧ a < 32) ∨ (2 ≤ k ∧ k ≤ 4 ∧ a = 0 ∧ p = 0)) (hxs : xs.length < 32) :
    portClass p ⟨withCrc (header k a xs.length :: xs), false⟩ false = .valid :=
  ((portFrameChecks.2 p k a xs h hxs).1)

/-- R50: the value that a latch takes. -/
theorem latchTake_eq (e : SourceEntry) (v : Word) :
    latchTake e v = ⟨if e.invert then BitVec.ofInt 16 (min 32767 (-v.toInt)) else v, 0, true⟩ := by
  have hv : v.toInt < 2 ^ 15 := v.toInt_lt
  have hsat : satWord (-v.toInt) = BitVec.ofInt 16 (min 32767 (-v.toInt)) := by
    rw [satWord, clampInt, max_eq_right (by omega)]
  rw [latchTake, hsat]

/-- R48, R50: the latch of each source after a delivery. -/
theorem deliverSamples_latches_get (p : Fin 8) (node : Nat) (xs : List Word) (s : State) (n : Fin 48) :
    (deliverSamples p node xs s).latches[n] =
      if s.sourceTable[n].kind = .sensor ∧ s.sourceTable[n].port = p ∧ s.sourceTable[n].node.1 = node then
        match xs[s.sourceTable[n].channel.1]? with
        | some v => latchTake s.sourceTable[n] v
        | none => s.latches[n]
      else s.latches[n] := by
  refine (mapEntries_getElem _ s.latches n.1 n.2).trans ?_
  rw [toList_getElem?_fin]
  rfl

/-- Settles O8: the valid frame's effect decides whether the port is PASSING, and so whether its samples are
delivered. -/
theorem portTakesSampleFrame : Obligations.PortTakesSampleFrame := by
  unfold Obligations.PortTakesSampleFrame
  refine ⟨fun p node xs s hawake hnode hxs hrx => ?_, fun p node xs s => ⟨rfl, fun n => ?_⟩⟩
  · intro counted q
    have hkind : headerKind (header 1 node xs.length) = 1 := headerKind_header (by decide) (by omega) hxs
    have hend : s.ports[p].active = true → portEndMark p s = portDeliver p .valid
        ⟨withCrc (header 1 node xs.length :: xs), false⟩ (portTryPass p (setPort p q counted)) := fun hactive => by
      rw [portEndMark_collecting hactive hrx, portFrameEnd_setPort, portClass_valid (.inl ⟨rfl, hnode⟩) hxs]
      simp only [portClassEffect, withCrc, List.cons_append, List.head?_cons, Option.map_some, hkind]
      rw [show ((some 1 : Option Nat) == some 1) = true from rfl, portValidEffect_sample_setPort]
      simp only [incr_portTable]
      rfl
    have htable : counted.portTable[p] = s.portTable[p] := by simp only [counted, incr_portTable]
    have hdeliver : ∀ u : State, portDeliver p .valid ⟨withCrc (header 1 node xs.length :: xs), false⟩ u =
        if u.ports[p].mode = .passing then deliverSamples p node xs u else u := fun u => by
      rw [portDeliver_sample (xs := xs) rfl hkind, headerAddress_header (by decide) (by omega) hxs]
      simp only [true_or, and_true]
    refine ⟨fun hmode => exec_of_effect hawake ?_, fun hmode => exec_of_effect hawake ?_⟩
    · have hq : ¬ q.mode = .qualifying := by rw [show q.mode = .passing from hmode]; decide
      refine (hend (Port.active_of_passing hmode)).trans ?_
      rw [portTryPass_setPort, if_neg (fun h => hq h.1), hdeliver, setPort_get]
      exact if_pos hmode
    · have hq : q.mode = .qualifying := hmode
      refine (hend (Port.active_of_qualifying hmode)).trans ?_
      rw [portTryPass_setPort, htable]
      by_cases hpass : s.portTable[p].passThreshold ≤ q.run ∧ q.stable = true ∧ s.portTable[p].minRate ≤ q.rate
      · rw [if_pos ⟨hq, (canPass_iff _ _).2 hpass⟩, if_pos hpass, hdeliver, setPort_get, raise_setPort]
        exact if_pos rfl
      · rw [if_neg (fun h => hpass ((canPass_iff _ _).1 h.2)), if_neg hpass, hdeliver, setPort_get, if_neg]
        rw [hq]
        decide
  · refine (deliverSamples_latches_get p node xs s n).trans (if_congr Iff.rfl ?_ rfl)
    cases xs[s.sourceTable[n].channel.1]? with
    | none => rfl
    | some v => exact latchTake_eq _ v

/-- Settles O9: a valid management frame takes its effect on the port, and then joins the input queue. -/
theorem portHandsOverManagement : Obligations.PortHandsOverManagement := by
  unfold Obligations.PortHandsOverManagement
  intro p k xs s hp hawake hmode hlow hhigh hxs hrx u
  have hactive : s.ports[p].active = true := (Port.active_iff _).2 hmode
  have hkind : headerKind (header k 0 xs.length) = k := headerKind_header (by omega) (by decide) hxs
  have hend : portEndMark p s = mgmtJoin ⟨header k 0 xs.length, xs⟩ u := by
    rw [portEndMark_collecting hactive hrx, portFrameEnd_setPort, portClass_valid (.inr ⟨hlow, hhigh, rfl, hp⟩) hxs]
    simp only [portClassEffect, withCrc, List.cons_append, List.head?_cons, Option.map_some, hkind]
    have hnot : (some k == some 1) = false := by
      simp only [Option.some_beq_some, beq_eq_false_iff_ne]
      omega
    rw [hnot, portValidEffect_mgmt_setPort]
    simp only [portDeliver, hkind, if_neg (show ¬ k = 1 by omega), List.dropLast_concat, if_true]
    simp only [incr_portTable]
    rfl
  have hqueue : u.mgmtQueue = s.mgmtQueue := by simp only [u, setPort_mgmtQueue, incr_mgmtQueue]
  refine ⟨fun hroom => exec_of_effect hawake (hend.trans ?_), fun hfull => exec_of_effect hawake (hend.trans ?_)⟩
  · rw [mgmtJoin, hqueue, if_pos hroom]
  · rw [mgmtJoin, hqueue, if_neg (by omega)]

end Machine
end Sys2Proof

namespace Sys2Proof
namespace Machine

/-! ### What the pass's record does not touch (chapter 3) -/

/-- The state with another pass record. -/
def setPass (p : Pass) (s : State) : State := { s with pass := p }

theorem raise_setPass (k : NoticeKind) (i : Nat) (p : Pass) (s : State) :
    raise k i (setPass p s) = setPass p (raise k i s) := by
  have h := raise_only k i s
  refine (raise_over k i s (setPass p s) rfl).trans ?_
  rw [h]; rfl

theorem incr_setPass (i : CounterId) (p : Pass) (s : State) : incr i (setPass p s) = setPass p (incr i s) := by
  have h := incr_only i s
  refine (incr_over i s (setPass p s) rfl).trans ?_
  rw [h]; rfl

theorem parityFail_over (b : ParityBank) (s t : State) (hm : t.noticeMask = s.noticeMask) :
    parityFail b (t.withCountsOf s) = t.withCountsOf (parityFail b s) := by
  unfold parityFail
  rw [incr_over _ s t hm]
  exact raise_over .parity b.index { incr (.global b.counter) s with
    parityFlags := (incr (.global b.counter) s).parityFlags.mark b } t (hm.trans (incr_noticeMask _ s).symm)

/-- R85: the check of a read commutes with every update of what it does not count in. -/
theorem checkParity_over (b : ParityBank) (ws : List StoredWord) (s t : State) (hm : t.noticeMask = s.noticeMask) :
    checkParity b ws (t.withCountsOf s) = t.withCountsOf (checkParity b ws s) := by
  induction ws generalizing s with
  | nil => rfl
  | cons w ws ih =>
    simp only [checkParity]
    split
    · exact ih s hm
    · have hmask : (parityFail b s).noticeMask = s.noticeMask := by rw [parityFail_only b s]
      rw [parityFail_over b s t hm]
      exact ih _ (hm.trans hmask.symm)

theorem checkParity_setPass (b : ParityBank) (ws : List StoredWord) (p : Pass) (s : State) :
    checkParity b ws (setPass p s) = setPass p (checkParity b ws s) := by
  have h := checkParity_only b ws s
  refine (checkParity_over b ws s (setPass p s) rfl).trans ?_
  rw [h]; rfl

theorem laneChoose_setPass (l : Fin 4) (p : Pass) (s : State) :
    laneChoose l (setPass p s) = setPass p (laneChoose l s) := by
  have hnext : laneNext (setPass p s) s.lanes[l] = laneNext s s.lanes[l] := rfl
  change (if s.lanes[l].up && s.lanes[l].tx.isNone then
    match laneNext (setPass p s) s.lanes[l] with
    | some (f, timed, untimed) =>
      setLane l { s.lanes[l] with timed := timed, untimed := untimed, tx := some ⟨f, true⟩ } (setPass p s)
    | none => setPass p s
  else setPass p s) = setPass p (if s.lanes[l].up && s.lanes[l].tx.isNone then
    match laneNext s s.lanes[l] with
    | some (f, timed, untimed) =>
      setLane l { s.lanes[l] with timed := timed, untimed := untimed, tx := some ⟨f, true⟩ } s
    | none => s
  else s)
  rw [hnext]
  split
  · cases laneNext s s.lanes[l] <;> rfl
  · rfl

theorem joinTimed_setPass (e : TimedEntry) (p : Pass) (s : State) :
    joinTimed e (setPass p s) = setPass p (joinTimed e s) := by
  unfold joinTimed
  dsimp only
  have hset : ∀ k, setLane (slotLane e.slot) k (setPass p s) = setPass p (setLane (slotLane e.slot) k s) :=
    fun _ => rfl
  rw [hset, incr_setPass, raise_setPass]
  exact (apply_ite (setPass p) _ _ _).symm

theorem handOver_setPass (e : TimedEntry) (p : Pass) (s : State) :
    handOver e (setPass p s) = setPass p (handOver e s) := by
  unfold handOver
  rw [joinTimed_setPass, laneChoose_setPass]
  exact (apply_ite (setPass p) _ _ _).symm

/-! ### How a pass ends (R57, R59, R73, R76) -/

theorem restartWaiting_eq_false {s : State} (h : ∀ f, s.mgmt ≠ .executing f .restarting) :
    restartWaiting s = false := by
  unfold restartWaiting
  split
  · rename_i f hf; exact absurd hf (h f)
  · rfl

/-- R73: an overrun pass ends into the pass that waits longest; where its walk stood does not matter. -/
theorem endPass_overrun {s : State} (n : Nat) (hwaiting : 0 < s.pass.waiting) :
    endPass .overrun (walkTo n s) = overrunInto s := by
  have hover : passOver .overrun (walkTo n s) = setPass
      { s.pass with walkPos := n, stage := .idle, lastOutcome := .overrun, ending := none, comp := none }
      (raise .passOverrun 0 (incr (.global .passOverrun) s)) := by
    rw [← raise_setPass, ← incr_setPass]
    rfl
  have honly := (incr_only (.global .passOverrun) s).trans (raise_only .passOverrun 0 _)
  rw [endPass_eq, if_pos (show (walkTo n s).pass.waiting ≠ 0 from Nat.pos_iff_ne_zero.1 hwaiting), hover]
  unfold overrunInto
  generalize raise .passOverrun 0 (incr (.global .passOverrun) s) = u at honly
  have hseq : u.seq = s.seq := by rw [honly]
  have hprojected : projected u = projected s := by rw [honly]; rfl
  have hrestart : restartWaiting u = restartWaiting s := by rw [honly]; rfl
  have hmore : (s.pass.waiting - 1 ≠ 0) = (1 < s.pass.waiting) := propext (by omega)
  rw [← hseq, ← hprojected, ← hrestart]
  simp only [← hmore]
  rfl

theorem walkTo_self (s : State) : walkTo s.pass.walkPos s = s := rfl

/-- R76: a pass that RESTART ends is ended, and the History Store cleared. -/
theorem endPass_restarted {s : State} (n : Nat) (hwaiting : s.pass.waiting = 0) (hrestart : restartWaiting s = true) :
    endPass .restarted (walkTo n s) = restartedAt n s := by
  have hwaits : restartWaiting (passOver .restarted (walkTo n s)) = true := hrestart
  rw [endPass_eq, if_neg (show ¬ (walkTo n s).pass.waiting ≠ 0 from fun h => h hwaiting), if_pos hwaits]
  rfl

/-- R65, R73, R76: the walk has finished with its slot. -/
theorem slotDone_eq {s : State} (hs : EndingHolds s) : slotDone s = slotFinished s := by
  unfold slotDone slotFinished
  dsimp only
  cases hending : s.pass.ending with
  | none => rfl
  | some e =>
    cases e with
    | overrun => exact endPass_overrun _ (hs.overrun hending)
    | restart =>
      obtain ⟨hwaiting, hrestart⟩ := hs.restart hending
      exact endPass_restarted _ hwaiting hrestart

/-! ### The Period Timer and the push -/

theorem mapEntries_const {α β : Type} {n : Nat} (f : α → β) (v : Vector α n) :
    mapEntries (fun _ => f) v = v.map f := by
  refine vector_ext fun i => ?_
  exact (mapEntries_getElem _ v i.1 i.2).trans (Vector.getElem_map f i.2).symm

/-- Settles O11: by where the pass in flight stands when the expiry comes. -/
theorem periodExpiryBeginsOrCutsPass : Obligations.PeriodExpiryBeginsOrCutsPass := by
  unfold Obligations.PeriodExpiryBeginsOrCutsPass
  intro s hawake aged begun
  have haged : expire s = aged := by
    unfold expire markAged
    rw [mapEntries_const]
  have hexpiry : s.running = true → periodExpiry s = if s.pass.stage = .idle then beginPass (s.seq + 1) 0 aged
      else if s.pass.stage = .walk ∧ 96 ≤ s.pass.walkPos then endPass .overrun (cutPass aged) else cutPass aged :=
    fun hrun => by rw [periodExpiry_eq, if_pos hrun, haged]
  refine ⟨fun hstopped => exec_of_effect hawake ?stopped, fun hrun => ⟨fun hidle hmgmt => exec_of_effect hawake ?begins,
    fun hending hflight => exec_of_effect hawake ?cut, fun hwalk hpos hwaiting hmgmt => exec_of_effect hawake ?ends⟩⟩
  case stopped => exact (periodExpiry_eq s).trans (if_neg (by rw [hstopped]; decide))
  case begins =>
    refine (hexpiry hrun).trans ((if_pos hidle).trans ?_)
    unfold beginPass
    have hnot : restartWaiting (applyPending aged) = false := restartWaiting_eq_false hmgmt
    dsimp only
    rw [if_neg (not_not.2 rfl), hnot]
    rfl
  case cut =>
    refine (hexpiry hrun).trans ?_
    rw [if_neg, if_neg]
    · have hor : s.pass.ending.or (some .overrun) = some .overrun := by
        cases he : s.pass.ending with
        | none => rfl
        | some e =>
          cases e with
          | overrun => rfl
          | restart => exact absurd he hending
      unfold cutPass
      rw [show aged.pass = s.pass from rfl, hor]
    · rcases hflight with h | h
      · rw [h]; intro hw; cases hw.1
      · omega
    · rcases hflight with h | ⟨h, -⟩ <;> rw [h] <;> decide
  case ends =>
    refine (hexpiry hrun).trans ?_
    have hone : (cutPass aged).pass.waiting = 1 := congrArg (· + 1) hwaiting
    have hnot : restartWaiting (cutPass aged) = false := restartWaiting_eq_false hmgmt
    rw [if_neg (by rw [hwalk]; decide), if_pos ⟨hwalk, hpos.ge⟩, ← walkTo_self (cutPass aged),
      endPass_overrun _ (by rw [hone]; decide)]
    have hraised : raise .passOverrun 0 (incr (.global .passOverrun) (cutPass aged)) =
        setPass (cutPass aged).pass (raise .passOverrun 0 (incr (.global .passOverrun) aged)) := by
      rw [← raise_setPass, ← incr_setPass]
      rfl
    unfold overrunInto
    rw [hone, hnot, hraised]
    have hseq : (cutPass aged).seq - BitVec.ofNat 16 (1 - 1) = s.seq + 1 := BitVec.sub_zero _
    rw [hseq]
    rfl

/-- R62: the addresses at which the push writes, one for each source. -/
theorem pushWrites_addresses (s : State) (pos : Nat) :
    (pushWrites s pos).map (·.1) = (List.range 48).map fun q => q * 48 + pos := by
  refine List.ext_getElem? fun i => ?_
  simp only [pushWrites, List.getElem?_map, mapFrom_getElem?, Option.map_map, Nat.zero_add]
  by_cases hi : i < 48
  · rw [List.getElem?_eq_getElem (by simpa using hi), List.getElem?_eq_getElem (by simpa using hi)]
    simp
  · rw [List.getElem?_eq_none (by simpa using hi), List.getElem?_eq_none (by simpa using hi)]
    rfl

theorem mem_pushWrites (s : State) (pos : Nat) (q : Fin 48) :
    (q.1 * 48 + pos, latchYield s.sourceTable[q] s.latches[q]) ∈ pushWrites s pos := by
  refine List.mem_of_getElem? (i := q.1) ?_
  rw [pushWrites, mapFrom_getElem?, Nat.zero_add, List.getElem?_eq_getElem (by simp)]
  simp

theorem mem_pushWrites_address {s : State} {pos : Nat} {x : Nat × Word} (hx : x ∈ pushWrites s pos) :
    ∃ q : Fin 48, x.1 = q.1 * 48 + pos := by
  have haddress : x.1 ∈ (pushWrites s pos).map (·.1) := List.mem_map_of_mem hx
  rw [pushWrites_addresses] at haddress
  obtain ⟨q, hq, he⟩ := List.mem_map.1 haddress
  exact ⟨⟨q, List.mem_range.1 hq⟩, he.symm⟩

theorem pushWrites_nodup (s : State) (pos : Nat) : ((pushWrites s pos).map (·.1)).Nodup := by
  rw [pushWrites_addresses]
  exact (List.nodup_range (n := 48)).map fun a b h => by
    have he : a * 48 + pos = b * 48 + pos := h
    omega

/-- Settles O12: the push, then the pass's end by what is to end it. -/
theorem passPushWritesHistory : Obligations.PassPushWritesHistory := by
  unfold Obligations.PassPushWritesHistory
  intro s hawake hpush hwf hs
  refine ⟨(pushSources s).history, (pushSources s).latches, ?_, fun q => ?_, fun a ha => ?_, fun q => ?_⟩
  · intro pushed
    have hpushed : pushSources s = pushed := rfl
    have hpass : pushed.pass = { s.pass with elapsedNs := s.pass.elapsedNs + 200 } := rfl
    refine exec_of_effect hawake ((if_pos hpush).trans ?_)
    rw [hpushed]
    have hending : pushed.pass.ending = s.pass.ending := rfl
    dsimp only
    rw [hending]
    cases he : s.pass.ending with
    | none => rfl
    | some e =>
      cases e with
      | overrun => exact endPass_overrun (s := pushed) pushed.pass.walkPos (hs.overrun he)
      | restart =>
        obtain ⟨hwaiting, hrestart⟩ := hs.restart he
        exact endPass_restarted (s := pushed) s.pass.walkPos hwaiting hrestart
  · exact Store.read_writeAll_in hwf _ (pushWrites_nodup s _) (mem_pushWrites s _ q)
  · refine Store.read_writeAll_out _ _ fun x hx he => ?_
    obtain ⟨q, hq⟩ := mem_pushWrites_address hx
    exact ha q (he.symm.trans hq)
  · exact mapEntries_getElem _ s.latches q.1 q.2

end Machine
end Sys2Proof

namespace Sys2Proof
namespace Machine

/-! ### The slot walk (chapters 1 and 3) -/

/-- R65: which slot the pass with sequence n serves. -/
theorem selected_iff (e : SlotEntry) (c : Channel) (n : Word) : selected e c n = true ↔
    e.enabled = true ∧ (c.state = .run ∨ c.state = .probe) ∧ n.toNat % e.divisor = e.phase := by
  simp [selected, and_assoc]

/-- R65: WALK_SLOT with nothing under way reads the slot that the walk has reached. -/
theorem walkSlot_reach {s : State} {t : Fin 96} (hwalk : s.pass.stage = .walk) (hpos : s.pass.walkPos = t.1)
    (hcomp : s.pass.comp = none) : walkSlot s = reachSlot t s := by
  have ht : toFin 96 s.pass.walkPos = some t := toFin_eq_some_iff.2 hpos
  simp only [walkSlot, hwalk, hcomp, ht, if_true]

/-- R67, R71: a selected slot in RUN. -/
theorem reachSlot_run {s : State} {t : Fin 96} (henabled : s.slotTable[t].enabled = true)
    (hphase : s.pass.seq.toNat % s.slotTable[t].divisor = s.slotTable[t].phase) (hrun : s.channels[t].state = .run) :
    reachSlot t s = beginComp t (addElapsed Config.selectedSlotNs s) := by
  have hselected := (selected_iff s.slotTable[t] s.channels[t] s.pass.seq).2 ⟨henabled, .inl hrun, hphase⟩
  simp only [reachSlot, hselected, if_true, if_pos hrun]

/-- R18, R67: the computation of an empty path set has nothing to read. -/
theorem beginComp_empty {s : State} {t : Fin 96} (h : pathSet s t = []) : beginComp t s =
    setPass { s.pass with comp := some (.compute ⟨t, s.slotTable[t].shift, s.slotTable[t].limit, 0, []⟩) } s := by
  unfold beginComp
  rw [h]
  rfl

theorem pathSet_eq_nil {s : State} {t : Fin 96}
    (h : ∀ i : Fin 384, s.pathTable[i].state = .enabled → s.pathTable[i].slot ≠ t) : pathSet s t = [] := by
  refine List.filter_eq_nil_iff.2 fun e he => ?_
  obtain ⟨i, hi, rfl⟩ := List.mem_iff_getElem.1 he
  have hi' : i < 384 := by simpa using hi
  have hentry := h ⟨i, hi'⟩
  simpa using hentry

/-- What a pass has to end it depends on its record and on RESTART alone. -/
theorem EndingHolds.of_eq {s u : State} (hs : EndingHolds s) (hending : u.pass.ending = s.pass.ending)
    (hwaiting : u.pass.waiting = s.pass.waiting) (hmgmt : u.mgmt = s.mgmt) : EndingHolds u := by
  have hrestart : restartWaiting u = restartWaiting s := by unfold restartWaiting; rw [hmgmt]
  refine ⟨fun h => ?_, fun h => ?_⟩
  · rw [hwaiting]; exact hs.overrun (hending.symm.trans h)
  · rw [hwaiting, hrestart]; exact hs.restart (hending.symm.trans h)

/-- R69: the slot whose entry has been handed over is finished. -/
theorem slotDone_handOver {s u : State} (e : TimedEntry) (hs : EndingHolds s) (hu : OnlyCounts s u) :
    slotDone (setPass { s.pass with comp := none } (handOver e u)) =
      slotFinished (setPass { s.pass with comp := none } (handOver e u)) := by
  refine slotDone_eq (hs.of_eq rfl rfl ?_)
  change (handOver e u).mgmt = s.mgmt
  rw [handOver_only e u, hu]

/-- Settles O13: what the walk reads of the slot decides, and a PROBE entry read before is handed over. -/
theorem walkServesWithoutPaths : Obligations.WalkServesWithoutPaths := by
  unfold Obligations.WalkServesWithoutPaths
  intro t s hawake hwalk hpos e reached
  refine ⟨fun hcomp => ⟨fun hnot hs => exec_of_effect hawake ?passed, fun henabled hphase =>
    ⟨fun hprobe => exec_of_effect hawake ?probe, fun hrun hempty => exec_of_effect hawake ?run⟩⟩,
    fun hcomp hs => exec_of_effect hawake ?handed⟩
  case passed =>
    refine (walkSlot_reach hwalk hpos hcomp).trans ?_
    have hselected : ¬ selected s.slotTable[t] s.channels[t] s.pass.seq = true := fun h => by
      obtain ⟨henabled, hlive, hphase⟩ := (selected_iff _ _ _).1 h
      rcases hnot with h | ⟨h, h'⟩ | h
      · rw [show s.slotTable[t].enabled = false from h] at henabled; cases henabled
      · rcases hlive with h'' | h''
        · exact h h''
        · exact h' h''
      · exact h hphase
    exact (if_neg hselected).trans (slotDone_eq hs)
  case probe =>
    refine (walkSlot_reach hwalk hpos hcomp).trans ?_
    have hselected := (selected_iff s.slotTable[t] s.channels[t] s.pass.seq).2 ⟨henabled, .inr hprobe, hphase⟩
    have hnot : ¬ s.channels[t].state = .run := by rw [hprobe]; decide
    exact (if_pos hselected).trans (if_neg hnot)
  case run =>
    refine (walkSlot_reach hwalk hpos hcomp).trans ((reachSlot_run henabled hphase hrun).trans ?_)
    exact beginComp_empty (s := addElapsed Config.selectedSlotNs s) (pathSet_eq_nil hempty)
  case handed =>
    have hprobe : walkSlot s = slotDone (finishProbe t s) := by simp only [walkSlot, hwalk, hcomp, if_true]
    have hfinish : finishProbe t s = setPass { s.pass with comp := none } (handOver ⟨t, s.pass.seq, .probe⟩ s) :=
      handOver_setPass _ _ _
    refine hprobe.trans ?_
    rw [hfinish]
    exact slotDone_handOver _ hs (OnlyCounts.refl s)

/-! ### The computation of a slot -/

/-- R63: the values at lateness j and on, one for each of n taps. -/
theorem historyRead_eq_map (s : State) (q : Fin 48) (j n : Nat) : historyRead s q j n =
    (List.range n).map fun k => s.history.read (q.1 * 48 + (s.pushPos + 48 - (j + k) % 48) % 48) := by
  induction n generalizing j with
  | zero => rfl
  | succ n ih =>
    rw [historyRead, ih, List.range_succ_eq_map, List.map_cons, List.map_map]
    refine congrArg (_ :: ·) (List.map_congr_left fun k _ => ?_)
    simp only [Function.comp_apply, Nat.add_assoc, Nat.add_comm 1 k]

/-- R14 to R17: the computation of a slot with paths begins. -/
theorem beginComp_cons {s : State} {t : Fin 96} {e : PathEntry} {rest : List PathEntry}
    (h : pathSet s t = e :: rest) : beginComp t s = request (bankOf e.block.1) (.passRead e.block e.taps)
      (setPass { s.pass with
          elapsedNs := s.pass.elapsedNs + pathsNs (e :: rest)
          comp := some (.compute
            ⟨t, s.slotTable[t].shift, s.slotTable[t].limit, 0, (e :: rest).map (pathJob s)⟩) }
        (checkParity .h ((e :: rest).flatMap (pathHistory s)) s)) := by
  have hpass := checkParity_pass .h ((e :: rest).flatMap (pathHistory s)) s
  unfold beginComp
  rw [h]
  dsimp only
  generalize checkParity .h ((e :: rest).flatMap (pathHistory s)) s = u at hpass
  rw [← hpass]
  rfl

/-- Settles O14: the path set as given, its history checked, its first read requested. -/
theorem walkBeginsComputation : Obligations.WalkBeginsComputation := by
  unfold Obligations.WalkBeginsComputation
  intro t e rest s hawake hwalk hpos hcomp henabled hrun hphase hset used words job
  refine exec_of_effect hawake ((walkSlot_reach hwalk hpos hcomp).trans ((reachSlot_run henabled hphase hrun).trans ?_))
  have hused : ∀ x : PathEntry, sourceUsed (addElapsed Config.selectedSlotNs s) x.source = used x := fun x => by
    change (s.sourceTable[x.source].kind != .unused) = decide (s.sourceTable[x.source].kind ≠ .unused)
    cases s.sourceTable[x.source].kind <;> rfl
  have hhistory : pathHistory (addElapsed Config.selectedSlotNs s) = fun x => if used x then words x else [] :=
    funext fun x => by
      rw [pathHistory, hused, historyRead_eq_map]
      rfl
  have hjob : pathJob (addElapsed Config.selectedSlotNs s) = job := funext fun x => by
    simp only [pathJob, hhistory, hused, job]
    cases used x <;> rfl
  have hpaths : pathSet (addElapsed Config.selectedSlotNs s) t = e :: rest := hset
  rw [beginComp_cons hpaths, hjob, hhistory]
  unfold addElapsed
  rw [← setPass, checkParity_setPass]
  simp only [pathsNs, Config.pathNs, Config.tapNs, Nat.mul_one, Config.selectedSlotNs]
  rfl

/-- R19 to R21: the correction is counted where it was clamped, and its entry handed over. -/
theorem finishComp_setPass (c : SlotComp) (s : State) :
    let u := rawCorrection c.shift c.acc
    finishComp c s = setPass { s.pass with comp := none } (handOver
      ⟨c.slot, s.pass.seq, .correct (BitVec.ofInt 16 (correction c.limit u)) (isClamped c.limit u)⟩
      (if isClamped c.limit u then incr (.slot c.slot .clamp) s else s)) := by
  intro u
  have hcounted : ∀ b : Bool, (if b then incr (.slot c.slot .clamp) (setPass { s.pass with comp := none } s)
      else setPass { s.pass with comp := none } s) =
      setPass { s.pass with comp := none } (if b then incr (.slot c.slot .clamp) s else s) := fun b => by
    cases b
    · rfl
    · exact incr_setPass _ _ s
  unfold finishComp
  dsimp only
  rw [← setPass, hcounted, ← handOver_setPass]
  rfl

/-- Settles O15: the sum is scaled and handed over, and the slot finished; after slot 95 the pass is over. -/
theorem walkAndPassFinish : Obligations.WalkAndPassFinish := by
  unfold Obligations.WalkAndPassFinish
  refine fun s hawake hwalk => ⟨fun c hcomp htodo hs => ?_, fun hpos hcomp hwaiting hmgmt => ?_⟩
  · have hcompute : walkSlot s = slotDone (finishComp c s) := by
      simp only [walkSlot, hwalk, hcomp, htodo, List.isEmpty_nil, if_true]
    have hclamped : ∀ u : Int, isClamped c.limit u = decide (u < -(c.limit : Int) ∨ (c.limit : Int) < u) := fun u =>
      (Bool.decide_or _ _).symm
    refine exec_of_effect hawake (hcompute.trans ?_)
    rw [finishComp_setPass, slotDone_handOver _ hs, hclamped]
    · rfl
    · split
      · exact incr_only _ _
      · exact OnlyCounts.refl s
  · have hnot : restartWaiting (passOver .completed s) = false := restartWaiting_eq_false hmgmt
    refine exec_of_effect hawake ((if_pos ⟨hwalk, hpos.ge, hcomp⟩).trans ?_)
    rw [endPass_eq, if_neg (not_not.2 hwaiting), if_neg (by rw [hnot]; decide)]
    unfold passOver
    rw [if_neg (by decide)]
    simp only [hcomp]

end Machine
end Sys2Proof

namespace Sys2Proof
namespace Machine

/-! ### What a taken operation reads (chapter 4) -/

/-- A range as read, word by word. -/
theorem readRange_eq_map (m : Store) (a n : Nat) : m.readRange a n = (List.range n).map fun i => m.read (a + i) := by
  refine List.ext_getElem? fun i => ?_
  rw [readRange_getElem?, List.getElem?_map]
  by_cases hi : i < n
  · rw [if_pos hi, List.getElem?_range hi, Option.map_some]
  · rw [if_neg hi, List.getElem?_eq_none (by simpa using hi), Option.map_none]

theorem free_of_eq_idle {k : Bank} (h : k = ⟨none, none, none, none, none⟩) : k.free = true := by rw [h]; rfl

theorem not_free_of_busy {k : Bank} (h : k.busy.isSome = true) : ¬ k.free = true := fun hfree => by
  rw [((Bank.free_iff k).1 hfree).1] at h
  cases h

theorem tapOperationComplete_busy {b : BankId} {s : State} {u : UnderWay} (h : (s.bank b).busy = some u) :
    tapOperationComplete b s = deliverOp b u (takeNext b s) := by
  unfold tapOperationComplete
  rw [h]

theorem tapOperationComplete_idle {b : BankId} {s : State} (h : (s.bank b).busy = none) :
    tapOperationComplete b s = s := by
  unfold tapOperationComplete
  rw [h]

/-- Settles O17: the arbiter's definition, place by place, and the words of each kind of read. -/
theorem bankArbiterPriority : Obligations.BankArbiterPriority := by
  unfold Obligations.BankArbiterPriority
  intro b op s k
  refine ⟨fun hawake => ⟨fun u hu => exec_of_effect hawake (tapOperationComplete_busy hu), fun hidle =>
    exec_of_effect hawake (tapOperationComplete_idle hidle)⟩, fun hidle => if_pos (free_of_eq_idle hidle),
    fun hbusy => ?waits, fun hpass => ?pass, fun hpass hadapt => ?adapt, fun hpass hadapt hdump => ?dump,
    fun hpass hadapt hdump hmgmt => ?mgmt, fun hk => ?idle, fun a n h => ?reads⟩
  case waits => exact (if_neg (not_free_of_busy hbusy)).trans (by cases op <;> rfl)
  case pass => simp only [takeNext, show (s.bank b).waitPass = some op from hpass, k]
  case adapt =>
    simp only [takeNext, show (s.bank b).waitPass = none from hpass, show (s.bank b).waitAdapt = some op from hadapt, k]
  case dump =>
    simp only [takeNext, show (s.bank b).waitPass = none from hpass, show (s.bank b).waitAdapt = none from hadapt,
      show (s.bank b).waitDump = some op from hdump, k]
  case mgmt =>
    simp only [takeNext, show (s.bank b).waitPass = none from hpass, show (s.bank b).waitAdapt = none from hadapt,
      show (s.bank b).waitDump = none from hdump, show (s.bank b).waitMgmt = some op from hmgmt, k]
  case idle =>
    simp only [takeNext, show (s.bank b).waitPass = none from congrArg Bank.waitPass hk,
      show (s.bank b).waitAdapt = none from congrArg Bank.waitAdapt hk,
      show (s.bank b).waitDump = none from congrArg Bank.waitDump hk,
      show (s.bank b).waitMgmt = none from congrArg Bank.waitMgmt hk, k]
  case reads =>
    rw [← readRange_eq_map]
    rcases h with ⟨blk, rfl, rfl⟩ | ⟨blk, rfl, rfl, rfl⟩ | ⟨second, rfl⟩ <;> rfl

/-! ### Failing words (R85, R88, R89, R190) -/

theorem ParityBank.counter_eq (b : ParityBank) : CounterId.global b.counter = match b with
    | .e => .global .parityE
    | .o => .global .parityO
    | .h => .global .parityH := by cases b <;> rfl

/-- R85: only how many words fail matters. -/
theorem checkParity_eq_iterate (b : ParityBank) (ws : List StoredWord) (s : State) :
    checkParity b ws s = (parityFail b)^[ws.countP fun w => !w.good] s := by
  induction ws generalizing s with
  | nil => rfl
  | cons w ws ih =>
    rw [checkParity, ih]
    cases hw : w.good
    · rw [List.countP_cons_of_pos (by simp [hw]), Function.iterate_succ_apply]
      rfl
    · rw [List.countP_cons_of_neg (by simp [hw])]
      rfl

/-- The two states have the same notice list and mask, and so raise alike. -/
structure SameNotices (s t : State) : Prop where
  notices : s.notices = t.notices
  mask : s.noticeMask = t.noticeMask

theorem SameNotices.refl (s : State) : SameNotices s s := ⟨rfl, rfl⟩

theorem SameNotices.trans {s t u : State} (h : SameNotices s t) (k : SameNotices t u) : SameNotices s u :=
  ⟨h.notices.trans k.notices, h.mask.trans k.mask⟩

theorem SameNotices.raise {s t : State} (h : SameNotices s t) (k : NoticeKind) (i : Nat) :
    SameNotices (raise k i s) (raise k i t) := by
  refine ⟨?_, (raise_noticeMask k i s).trans (h.mask.trans (raise_noticeMask k i t).symm)⟩
  unfold Machine.raise
  rw [h.mask, h.notices]
  split
  · rfl
  · exact h.notices

theorem SameNotices.raise_iterate {s t : State} (h : SameNotices s t) (k : NoticeKind) (i n : Nat) :
    SameNotices ((Machine.raise k i)^[n] s) ((Machine.raise k i)^[n] t) := by
  induction n with
  | zero => exact h
  | succ n ih =>
    rw [Function.iterate_succ_apply', Function.iterate_succ_apply']
    exact ih.raise k i

/-- R85, R187, R190: what one failing word raises: PARITY, after COUNTER-FULL where it brings the counter to 65535. -/
theorem parityFail_sameNotices (b : ParityBank) (s : State) : SameNotices (parityFail b s)
    (raise .parity b.index (if s.counters.read (.global b.counter) = 65534 then raise .counterFull 0 s else s)) := by
  unfold parityFail
  refine SameNotices.raise ?_ _ _
  refine SameNotices.trans (t := incr (.global b.counter) s) ⟨rfl, rfl⟩ ?_
  unfold incr
  dsimp only
  by_cases hfull : s.counters.read (.global b.counter) = 65535
  · rw [if_pos hfull, if_neg (by rw [hfull]; decide)]
    exact SameNotices.refl s
  · rw [if_neg hfull]
    split
    · refine SameNotices.raise ?_ _ _
      exact ⟨rfl, rfl⟩
    · exact ⟨rfl, rfl⟩

/-- R85, R89: what one failing word counts. -/
theorem parityFail_counters (b : ParityBank) (s : State) :
    (parityFail b s).counters = (incr (.global b.counter) s).counters := raise_counters _ _ _

theorem parityFail_read_ne (b : ParityBank) (s : State) {i : CounterId} (hi : i ≠ .global b.counter) :
    (parityFail b s).counters.read i = s.counters.read i := by
  rw [parityFail_counters]
  by_cases hfull : s.counters.read (.global b.counter) = 65535
  · rw [incr_of_full hfull]
  · rw [incr_counters_of_not_full hfull, Counters.read_write_ne _ hi]

theorem parityFail_read_self (b : ParityBank) (s : State) :
    ((parityFail b s).counters.read (.global b.counter)).toNat =
      min 65535 ((s.counters.read (.global b.counter)).toNat + 1) := by
  rw [parityFail_counters]
  by_cases hfull : s.counters.read (.global b.counter) = 65535
  · rw [incr_of_full hfull, hfull]
    rfl
  · rw [incr_counters_of_not_full hfull, Counters.read_write, toNat_succ_of_not_full hfull]
    have hlt := (s.counters.read (.global b.counter) + 1).isLt
    rw [toNat_succ_of_not_full hfull] at hlt
    omega

theorem raise_parityFlags (k : NoticeKind) (i : Nat) (s : State) : (raise k i s).parityFlags = s.parityFlags := by
  rw [raise_frame]

theorem incr_parityFlags (i : CounterId) (s : State) : (incr i s).parityFlags = s.parityFlags := by
  by_cases hfull : s.counters.read i = 65535
  · rw [incr_of_full hfull]
  · rw [incr_of_not_full hfull]
    split
    · exact raise_parityFlags _ _ _
    · rfl

section Iterate
variable (b : ParityBank) (s : State)

theorem parityFail_iterate_read_self (n : Nat) : (((parityFail b)^[n] s).counters.read (.global b.counter)).toNat =
    min 65535 ((s.counters.read (.global b.counter)).toNat + n) := by
  induction n with
  | zero =>
    have hlt := (s.counters.read (.global b.counter)).isLt
    rw [Function.iterate_zero_apply]
    omega
  | succ n ih =>
    rw [Function.iterate_succ_apply', parityFail_read_self, ih]
    omega

theorem parityFail_iterate_read_ne (n : Nat) {i : CounterId} (hi : i ≠ .global b.counter) :
    ((parityFail b)^[n] s).counters.read i = s.counters.read i := by
  induction n with
  | zero => rfl
  | succ n ih => rw [Function.iterate_succ_apply', parityFail_read_ne b _ hi, ih]

/-- R88: the sticky flags after n failing words. -/
theorem parityFail_iterate_flags (n : Nat) :
    ((parityFail b)^[n] s).parityFlags = if n = 0 then s.parityFlags else s.parityFlags.mark b := by
  have hone : ∀ u, (parityFail b u).parityFlags = u.parityFlags.mark b := fun u =>
    (raise_parityFlags _ _ _).trans (congrArg (·.mark b) (incr_parityFlags _ u))
  induction n with
  | zero => rfl
  | succ n ih =>
    rw [Function.iterate_succ_apply', hone, ih, if_neg n.succ_ne_zero]
    cases n with
    | zero => rfl
    | succ n => cases b <;> rfl

/-- A failing word that does not bring the counter to 65535 raises PARITY alone. -/
theorem parityFail_iterate_notices {n : Nat}
    (h : ∀ m, 1 ≤ m → m ≤ n → (s.counters.read (.global b.counter)).toNat + m ≠ 65535) :
    SameNotices ((parityFail b)^[n] s) ((raise .parity b.index)^[n] s) := by
  induction n with
  | zero => exact SameNotices.refl s
  | succ n ih =>
    rw [Function.iterate_succ_apply', Function.iterate_succ_apply']
    refine (parityFail_sameNotices b _).trans ?_
    have hread := parityFail_iterate_read_self b s n
    have hnext := h (n + 1) (by omega) le_rfl
    rw [if_neg fun h34 => ?_]
    · exact (ih fun m h1 hm => h m h1 (by omega)).raise _ _
    · rw [h34] at hread
      change 65534 = min 65535 _ at hread
      omega

/-- The failing word that brings the counter to 65535 raises COUNTER-FULL just before PARITY. -/
theorem parityFail_iterate_full {m : Nat} (hm : 1 ≤ m)
    (hfull : (s.counters.read (.global b.counter)).toNat + m = 65535) (j : Nat) :
    SameNotices ((parityFail b)^[m + j] s)
      ((raise .parity b.index)^[j + 1] (raise .counterFull 0 ((raise .parity b.index)^[m - 1] s))) := by
  induction j with
  | zero =>
    obtain ⟨n, rfl⟩ : ∃ n, m = n + 1 := ⟨m - 1, by omega⟩
    have hread := parityFail_iterate_read_self b s n
    rw [Nat.add_zero, Nat.add_sub_cancel, Function.iterate_succ_apply', Function.iterate_one]
    refine (parityFail_sameNotices b _).trans ?_
    rw [if_pos (BitVec.eq_of_toNat_eq (hread.trans ?_))]
    · exact ((parityFail_iterate_notices b s fun k _ hk => by omega).raise _ _).raise _ _
    · change min 65535 _ = 65534
      omega
  | succ j ih =>
    have hread := parityFail_iterate_read_self b s (m + j)
    rw [← Nat.add_assoc, Function.iterate_succ_apply', Function.iterate_succ_apply']
    refine (parityFail_sameNotices b _).trans ?_
    rw [if_neg fun h34 => ?_]
    · exact ih.raise _ _
    · rw [h34] at hread
      change 65534 = min 65535 _ at hread
      omega

end Iterate

/-- Settles O18: a read counts and raises as its failing words do one after the other. -/
theorem parityFailuresCount : Obligations.ParityFailuresCount := by
  unfold Obligations.ParityFailuresCount
  intro bank words s t n c index before
  have hc : c = .global bank.counter := (ParityBank.counter_eq bank).symm
  have hindex : index = bank.index := by cases bank <;> rfl
  have hbefore : before = (s.counters.read (.global bank.counter)).toNat := by rw [← hc]
  have ht : t = (parityFail bank)^[n] s := checkParity_eq_iterate bank words s
  rw [hindex]
  refine ⟨checkParity_only bank words s, ?_, fun i hi => ?_, ?_, fun h => ?_, fun m hm hmn hfull => ?_⟩
  · rw [ht, hc, hbefore]
    exact parityFail_iterate_read_self bank s n
  · rw [ht]
    exact parityFail_iterate_read_ne bank s n (hc ▸ hi)
  · rw [ht, parityFail_iterate_flags]
    split
    · rename_i hn
      cases bank <;> simp [hn]
    · rename_i hn
      cases bank <;> simp [hn, ParityFlags.mark]
  · rw [ht]
    exact (parityFail_iterate_notices bank s fun m _ hm => by omega).notices
  · rw [ht, show n = m + (n - m) by omega, show m + (n - m) + 1 - m = n - m + 1 by omega]
    exact (parityFail_iterate_full bank s hm (hbefore ▸ hfull) (n - m)).notices

end Machine
end Sys2Proof

namespace Sys2Proof
namespace Machine

/-! ### Completed coefficient reads (R16, R17, R79) -/

theorem ParityBank.ofBank_eq (b : BankId) : ParityBank.ofBank b = if b = .e then .e else .o := by cases b <;> rfl

theorem bankOf_eq (n : Nat) : bankOf n = if n % 2 = 0 then .e else .o := rfl

theorem takeNext_comp (b : BankId) (s : State) : (takeNext b s).pass.comp = s.pass.comp := by
  rw [takeNext_only b s]

/-- R16: the sum of products, tap by tap. -/
theorem dot_eq_sum (ws : List StoredWord) (xs : List Word) : dot (ws.map (·.value)) xs =
    ((ws.zip xs).map fun w => w.1.value.toInt * w.2.toInt).sum := by
  induction ws generalizing xs with
  | nil => rfl
  | cons w ws ih =>
    cases xs with
    | nil => rfl
    | cons x xs => rw [List.map_cons, dot, ih, List.zip_cons_cons, List.map_cons, List.sum_cons]

/-- R16, R17: the path at the head of those to read adds what it contributes, and the next one's read is requested. -/
theorem deliverPass_cons {s : State} {c : SlotComp} {job : PathJob} {rest : List PathJob}
    (hcomp : s.pass.comp = some (.compute c)) (htodo : c.todo = job :: rest) (ws : List StoredWord) :
    let u := setPass { s.pass with
      comp := some (.compute { c with todo := rest, acc := c.acc + contribution job ws }) } s
    (rest = [] → deliverPass ws s = u) ∧
    ∀ next more, rest = next :: more →
      deliverPass ws s = request (bankOf next.block.1) (.passRead next.block next.taps) u := by
  intro u
  refine ⟨fun hrest => ?_, fun next more hrest => ?_⟩
  · subst hrest
    simp only [deliverPass, hcomp, htodo, u, setPass]
  · subst hrest
    simp only [deliverPass, hcomp, htodo, u, setPass]

/-- Settles O19: the words are checked, and the computation takes what they contribute. -/
theorem passReadContributes : Obligations.PassReadContributes := by
  unfold Obligations.PassReadContributes
  intro b blk n words c job rest s hawake hbusy hcomp htodo added u
  have hadded : contribution job words = added := by
    unfold contribution added
    cases job.history with
    | none => rfl
    | some xs => exact congrArg (fun d : Int => if words.all (·.good) then d else 0) (dot_eq_sum words xs)
  have hpass := checkParity_pass (ParityBank.ofBank b) words (takeNext b s)
  obtain ⟨hlast, hmore⟩ := deliverPass_cons (s := checkParity (ParityBank.ofBank b) words (takeNext b s)) (c := c)
    (by rw [hpass, takeNext_comp, hcomp]) htodo words
  rw [hadded, hpass, ParityBank.ofBank_eq] at hlast hmore
  have hend : tapOperationComplete b s =
      deliverPass words (checkParity (if b = .e then .e else .o) words (takeNext b s)) := by
    rw [tapOperationComplete_busy hbusy, ← ParityBank.ofBank_eq]
    rfl
  refine ⟨fun hrest => exec_of_effect hawake (hend.trans (hlast hrest)), fun next more hrest =>
    exec_of_effect hawake (hend.trans (hmore next more hrest))⟩

/-! ### Adapter updates (R80, R81, R86, R107) -/

/-- R81: the sums of the words at hand and the deltas, tap by tap. -/
theorem tapSums_range (f : Nat → StoredWord) (ds : List Int) : tapSums ((List.range ds.length).map f) ds =
    (List.range ds.length).map fun k => (f k).value.toInt + ds.getD k 0 := by
  induction ds generalizing f with
  | nil => rfl
  | cons d ds ih =>
    simp only [List.length_cons, List.range_succ_eq_map, List.map_cons, List.map_map, tapSums]
    refine congrArg₂ List.cons rfl ?_
    refine (ih (f ∘ Nat.succ)).trans (List.map_congr_left fun k _ => ?_)
    simp

theorem countTapWrites_pass (n : Nat) (s : State) : (countTapWrites n s).pass =
    { s.pass with elapsedNs := s.pass.elapsedNs + if s.pass.stage = .idle then 0 else 4 * n } := by
  unfold countTapWrites
  split
  · rfl
  · simp only [Config.tapWriteNs, Nat.mul_comm]

theorem countTapWrites_taps (n : Nat) (s : State) : (countTapWrites n s).taps = s.taps := by
  unfold countTapWrites
  split <;> rfl

theorem OnlyBanks.frame {s t : State} (h : OnlyBanks s t) :
    t = { s with taps := t.taps, pass := t.pass, bankE := t.bankE, bankO := t.bankO } := by
  have hpass : t.pass = { s.pass with elapsedNs := t.pass.elapsedNs } := congrArg State.pass h
  rw [hpass]
  exact h

/-- R81, R86: an adapter update whose words are all good writes every sum, saturated. -/
theorem takeOp_adaptUpdate_good {b : BankId} {blk : Fin 512} {ds : List Int} {s : State}
    (h : (s.taps.readRange (blk.1 * 32) ds.length).all (·.good) = true) : takeOp b (.adaptUpdate blk ds) s =
      countTapWrites ds.length (State.setBank
        { s with
          taps := s.taps.writeRange (blk.1 * 32)
            ((tapSums (s.taps.readRange (blk.1 * 32) ds.length) ds).map satWord) } b
        { s.bank b with
          busy := some ⟨.adaptUpdate blk ds, s.taps.readRange (blk.1 * 32) ds.length,
            (tapSums (s.taps.readRange (blk.1 * 32) ds.length) ds).countP saturates⟩ }) := by
  simp only [takeOp, h, if_true]

theorem takeOp_adaptUpdate_bad {b : BankId} {blk : Fin 512} {ds : List Int} {s : State}
    (h : ¬ (s.taps.readRange (blk.1 * 32) ds.length).all (·.good) = true) : takeOp b (.adaptUpdate blk ds) s =
      s.setBank b { s.bank b with
        busy := some ⟨.adaptUpdate blk ds, s.taps.readRange (blk.1 * 32) ds.length, 0⟩ } := by
  simp only [takeOp, h]
  rfl

/-- Settles O20: by whether every word read is good; then the sums are written as one range. -/
theorem adapterUpdateWhole : Obligations.AdapterUpdateWhole := by
  unfold Obligations.AdapterUpdateWhole
  intro b blk ds s hwf t words sum good
  have hwords : s.taps.readRange (blk.1 * 32) ds.length = words := readRange_eq_map _ _ _
  have hgood : good ↔ (s.taps.readRange (blk.1 * 32) ds.length).all (·.good) = true := by
    rw [hwords]
    simp [words, good]
  refine ⟨(takeOp_only b _ s).frame, fun x hx => takeOp_bank_ne b x _ s hx, fun h => ?_, fun h => ?_⟩
  · have hsums : tapSums (s.taps.readRange (blk.1 * 32) ds.length) ds = (List.range ds.length).map sum := by
      rw [hwords, tapSums_range]
    have ht := takeOp_adaptUpdate_good (b := b) (hgood.1 h)
    rw [hsums, hwords] at ht
    have htaps : t.taps = s.taps.writeRange (blk.1 * 32) (((List.range ds.length).map sum).map satWord) := by
      change (takeOp b (.adaptUpdate blk ds) s).taps = _
      rw [ht, countTapWrites_taps, setBank_taps]
    refine ⟨fun k hk => ?_, fun a ha => ?_, ?_, ?_⟩
    · rw [htaps, Store.read_writeRange_in hwf _ _ (by simpa using hk), List.getElem_map, List.getElem_map,
        List.getElem_range]
      rfl
    · rw [htaps, Store.read_writeRange_out _ _ _ (by simpa using ha)]
    · change ((takeOp b (.adaptUpdate blk ds) s).bank b).busy = _
      rw [ht, countTapWrites_bank, bank_setBank, List.countP_map]
      have hsaturates : (saturates ∘ sum) = fun k => decide (sum k < -32768 ∨ 32767 < sum k) :=
        funext fun k => (Bool.decide_or _ _).symm
      rw [hsaturates]
    · change (takeOp b (.adaptUpdate blk ds) s).pass = _
      rw [ht, countTapWrites_pass]
      cases b <;> rfl
  · rw [← hwords]
    exact takeOp_adaptUpdate_bad (mt hgood.2 h)

end Machine
end Sys2Proof

namespace Sys2Proof
namespace Machine

/-! ### The shared checks of a table access (R167, R168, R170) -/

/-- R168: a write within its table goes on to the table's own checks. -/
theorem writeTable_within {size : Nat} {f : MgmtFrame} (hformat : f.writeFormatOk = true) (hlast : f.lastOffset < size)
    (rest : MgmtFrame → State → State) (s : State) : writeTable size rest f s = rest f s := by
  rw [writeTable, hformat, (beyond_eq_none_iff f.offset f.lastOffset size).2 hlast]
  rfl

theorem writeFormatOk_iff (f : MgmtFrame) :
    f.writeFormatOk = true ↔ 3 ≤ f.payload.length ∧ 1 ≤ f.data.length ∧ f.data.length ≤ 28 := by
  simp [MgmtFrame.writeFormatOk, and_assoc]

theorem readFormatOk_iff (f : MgmtFrame) (clear : Bool) : readFormatOk f clear = true ↔
    f.payload.length = 3 ∧ 1 ≤ f.count ∧ f.count ≤ 28 ∧ (clear = true ∨ f.flag11 = false) := by
  simp [readFormatOk, and_assoc]

theorem offset_le_lastOffset {f : MgmtFrame} (hdata : 1 ≤ f.data.length) : f.offset ≤ f.lastOffset := by
  unfold MgmtFrame.lastOffset
  split <;> omega

theorem lastOffset_le {f : MgmtFrame} (hdata : f.data.length ≤ 28) : f.lastOffset ≤ f.offset + 27 := by
  unfold MgmtFrame.lastOffset
  split <;> omega

/-- R168: the lowest touched entry that a check refuses. -/
theorem find?_touched_eq_some {f : MgmtFrame} {w e : Nat} {p : Nat → Bool} : (f.touched w).find? p = some e ↔
    p e = true ∧ f.touches w e = true ∧ ∀ x < e, f.touches w x = true → p x = false := by
  rw [MgmtFrame.touched, List.find?_range'_eq_some, ← MgmtFrame.touched, mem_touched]
  refine and_congr_right fun _ => and_congr_right fun he => ?_
  simp only [MgmtFrame.touches, Bool.and_eq_true, decide_eq_true_eq, Bool.not_eq_true'] at he ⊢
  constructor
  · intro h x hx htouch
    exact h x htouch.1 hx
  · intro h x hlow hx
    exact h x hx ⟨hlow, by omega⟩

theorem find?_touched_eq_none_iff {f : MgmtFrame} {w : Nat} {p : Nat → Bool} :
    (f.touched w).find? p = none ↔ ∀ e, f.touches w e = true → p e = false := by
  simp only [List.find?_eq_none, mem_touched, Bool.not_eq_true]

theorem refuseAt_eq (f : MgmtFrame) (st : Status) (off : Nat) (s : State) :
    refuseAt f st off s = replied f { statusReply f st with offset := some off } s := rfl

/-! ### The taps that a TAPS write writes (R82, R167) -/

/-- R82, R167: one word after the other, at its address. -/
theorem tapWrites_eq (f : MgmtFrame) : tapWrites f =
    (List.range f.data.length).map fun i => (if f.flag11 then f.offset + i else f.offset, f.data.getD i 0) := by
  refine List.ext_getElem? fun i => ?_
  unfold tapWrites
  rw [List.getElem?_map]
  by_cases hi : i < f.data.length
  · rw [List.getElem?_range hi]
    cases f.flag11 <;> simp [mapFrom_getElem?, List.getElem?_eq_getElem hi]
  · rw [List.getElem?_eq_none (l := List.range _) (by simpa using hi)]
    cases f.flag11 <;> simp [mapFrom_getElem?, List.getElem?_eq_none (Nat.le_of_not_lt hi)]

/-- R80, R82: a part of a TAPS write that a bank takes. -/
theorem takeOp_mgmtWrite (b : BankId) (writes : List (Nat × Word)) (s : State) : takeOp b (.mgmtWrite writes) s =
    countTapWrites writes.length (State.setBank { s with taps := s.taps.writeAll writes } b
      { s.bank b with busy := some ⟨.mgmtWrite writes, [], 0⟩ }) := rfl

theorem takeOp_mgmtWrite_taps (b : BankId) (writes : List (Nat × Word)) (s : State) :
    (takeOp b (.mgmtWrite writes) s).taps = s.taps.writeAll writes := by
  rw [takeOp_mgmtWrite, countTapWrites_taps, setBank_taps]

theorem takeOp_mgmtWrite_pass (b : BankId) (writes : List (Nat × Word)) (s : State) :
    (takeOp b (.mgmtWrite writes) s).pass =
      { s.pass with elapsedNs := s.pass.elapsedNs + if s.pass.stage = .idle then 0 else 4 * writes.length } := by
  rw [takeOp_mgmtWrite, countTapWrites_pass]
  cases b <;> rfl

theorem Store.writeAll_append (m : Store) (xs ys : List (Nat × Word)) :
    m.writeAll (xs ++ ys) = (m.writeAll xs).writeAll ys := by
  induction xs generalizing m with
  | nil => rfl
  | cons x xs ih => exact ih _

/-- Each address takes the last word there is for it. -/
theorem Store.read_writeAll_last {m : Store} (hwf : m.wf = true) (xs ys : List (Nat × Word)) {a : Nat} (w : Word)
    (h : ∀ z ∈ ys, z.1 ≠ a) : (m.writeAll (xs ++ (a, w) :: ys)).read a = ⟨w, true⟩ := by
  rw [Store.writeAll_append]
  exact (Store.read_writeAll_out _ ys h).trans (Store.read_put_self (Store.wf_writeAll hwf xs) a _)

/-- R82: with auto-increment tap o + i takes data word i. -/
theorem read_tapWrites_increment {f : MgmtFrame} {m : Store} (hwf : m.wf = true) (hflag : f.flag11 = true) :
    (∀ i, (h : i < f.data.length) → (m.writeAll (tapWrites f)).read (f.offset + i) = ⟨f.data[i], true⟩) ∧
    ∀ a, (a < f.offset ∨ f.offset + f.data.length ≤ a) → (m.writeAll (tapWrites f)).read a = m.read a := by
  rw [tapWrites_eq]
  simp only [hflag, if_true]
  refine ⟨fun i hi => ?_, fun a ha => Store.read_writeAll_out _ _ fun z hz he => ?_⟩
  · have hmem : (f.offset + i, f.data.getD i 0) ∈
        (List.range f.data.length).map fun i => (f.offset + i, f.data.getD i 0) :=
      List.mem_map.2 ⟨i, List.mem_range.2 hi, rfl⟩
    have hread := Store.read_writeAll_in hwf _ ?_ hmem
    · rw [hread, List.getD_eq_getElem?_getD, List.getElem?_eq_getElem hi]
      rfl
    · rw [List.map_map]
      exact List.nodup_range.map fun x y h => Nat.add_left_cancel h
  · obtain ⟨i, hi, rfl⟩ := List.mem_map.1 hz
    rw [List.mem_range] at hi
    dsimp only at he
    omega

/-- R82: without auto-increment tap o keeps the last data word. -/
theorem read_tapWrites_same {f : MgmtFrame} {m : Store} (hwf : m.wf = true) (hflag : f.flag11 = false) :
    (∀ w, f.data.getLast? = some w → (m.writeAll (tapWrites f)).read f.offset = ⟨w, true⟩) ∧
    ∀ a, a ≠ f.offset → (m.writeAll (tapWrites f)).read a = m.read a := by
  have htaps : tapWrites f = f.data.map fun w => (f.offset, w) := by
    unfold tapWrites
    rw [hflag]
    rfl
  rw [htaps]
  refine ⟨fun w hw => ?_, fun a ha => Store.read_writeAll_out _ _ fun z hz he => ?_⟩
  · obtain ⟨ws, hws⟩ := List.getLast?_eq_some_iff.1 hw
    rw [hws, List.map_append]
    exact Store.read_writeAll_last hwf _ [] w fun z hz => by cases hz
  · obtain ⟨w, -, rfl⟩ := List.mem_map.1 hz
    exact ha he.symm

/-! ### TAPS writes (R82, R83) -/

theorem protectedBlock_iff (s : State) (b : Nat) : protectedBlock s b = true ↔ ∃ i : Fin 384,
    (projected s)[i].state = .enabled ∧ (projected s)[i].adaptive = true ∧ (projected s)[i].block.1 = b := by
  unfold protectedBlock
  rw [List.any_eq_true]
  constructor
  · rintro ⟨e, he, h⟩
    obtain ⟨i, hi, rfl⟩ := List.mem_iff_getElem.1 he
    refine ⟨⟨i, by simpa using hi⟩, ?_⟩
    simpa [and_assoc] using h
  · rintro ⟨i, hstate, hadaptive, hblock⟩
    refine ⟨(projected s)[i], by simp, ?_⟩
    simp [-Fin.getElem_fin, hstate, hadaptive, hblock]

/-- R82: a TAPS write addresses one block or two. -/
theorem touched_taps {f : MgmtFrame} (hformat : f.writeFormatOk = true) :
    (f.offset / 32 = f.lastOffset / 32 ∧ f.touched 32 = [f.offset / 32]) ∨
      (f.lastOffset / 32 = f.offset / 32 + 1 ∧ f.touched 32 = [f.offset / 32, f.lastOffset / 32]) := by
  obtain ⟨-, hlow, hhigh⟩ := (writeFormatOk_iff f).1 hformat
  have hfirst := offset_le_lastOffset hlow
  have hlast := lastOffset_le hhigh
  unfold MgmtFrame.touched
  rcases Nat.lt_or_ge (f.offset / 32) (f.lastOffset / 32) with hlt | hge
  · have htwo : f.lastOffset / 32 = f.offset / 32 + 1 := by omega
    refine .inr ⟨htwo, ?_⟩
    rw [htwo, show f.offset / 32 + 1 + 1 - f.offset / 32 = 2 by omega]
    rfl
  · have hone : f.offset / 32 = f.lastOffset / 32 := by omega
    refine .inl ⟨hone, ?_⟩
    rw [← hone, show f.offset / 32 + 1 - f.offset / 32 = 1 by omega]
    rfl

/-- R83: the block of the first addressed offset in a protected block is the lowest one. -/
theorem offsetIn_div {f : MgmtFrame} {w b : Nat} (hw : 0 < w) (h : f.offset / w ≤ b) : f.offsetIn w b / w = b := by
  unfold MgmtFrame.offsetIn
  have hb : b * w / w = b := Nat.mul_div_cancel b hw
  rcases le_total f.offset (b * w) with hle | hle
  · rw [max_eq_right hle, hb]
  · rw [max_eq_left hle]
    have := Nat.div_le_div_right (c := w) hle
    omega

end Machine
end Sys2Proof

namespace Sys2Proof
namespace Machine

/-! ### TAPS by its parts (R82, R83, R86) -/

theorem exec_mwriteTaps_eq (s : State) : exec .mwriteTaps s = onFrame .mwriteTaps writeTaps s := rfl
theorem exec_mreadTaps_eq (s : State) : exec .mreadTaps s = onFrame .mreadTaps readTaps s := rfl

/-- R82, R83: a TAPS write within the table that protects no block requests its parts. -/
theorem writeTaps_requests {f : MgmtFrame} {s : State} (hformat : f.writeFormatOk = true)
    (hlast : f.lastOffset < 16384) (h : (f.touched 32).find? (protectedBlock s) = none) :
    writeTaps f s = requestWrites f (f.touched 32) (setPhase f (.writing (f.touched 32).length) s) := by
  rw [writeTaps, writeTable_within hformat hlast]
  simp only [h]

theorem writeTaps_refused {f : MgmtFrame} {s : State} {b : Nat} (hformat : f.writeFormatOk = true)
    (hlast : f.lastOffset < 16384) (h : (f.touched 32).find? (protectedBlock s) = some b) :
    writeTaps f s = replied f { statusReply f .busy with offset := some (f.offsetIn 32 b) } s := by
  rw [writeTaps, writeTable_within hformat hlast]
  simp only [h, refuseAt_eq]

/-- R82: where all the addresses are of one block, its part is the whole write. -/
theorem tapPart_all {f : MgmtFrame} (hformat : f.writeFormatOk = true) (h : f.offset / 32 = f.lastOffset / 32) :
    tapPart f (f.offset / 32) = tapWrites f := by
  refine List.filter_eq_self.2 fun x hx => ?_
  obtain ⟨-, hlow, -⟩ := (writeFormatOk_iff f).1 hformat
  rw [tapWrites_eq] at hx
  obtain ⟨i, hi, rfl⟩ := List.mem_map.1 hx
  rw [List.mem_range] at hi
  have hlast : f.flag11 = true → f.offset + i ≤ f.lastOffset := fun hflag => by
    unfold MgmtFrame.lastOffset
    rw [if_pos hflag]
    omega
  cases hflag : f.flag11
  · simp
  · have := hlast hflag
    simp only [if_true, beq_iff_eq]
    omega

theorem setPhase_bank (f : MgmtFrame) (ph : Phase) (s : State) (b : BankId) : (setPhase f ph s).bank b = s.bank b := by
  cases b <;> rfl

/-- R80, R82: the one part of a write of one block, taken at once by an idle bank while no pass is in flight. -/
theorem takeOp_tapPart {f : MgmtFrame} {s : State} {ph : Phase} (hformat : f.writeFormatOk = true)
    (hone : f.offset / 32 = f.lastOffset / 32) (hidle : s.pass.stage = .idle) :
    let t := takeOp (bankOf (f.offset / 32)) (.mgmtWrite (tapPart f (f.offset / 32))) (setPhase f ph s)
    t = { s with taps := t.taps, bankE := t.bankE, bankO := t.bankO, mgmt := .executing f ph } ∧
      (∀ b, b ≠ bankOf (f.offset / 32) → t.bank b = s.bank b) ∧ t.taps = s.taps.writeAll (tapWrites f) := by
  intro t
  have hframe := (takeOp_only (bankOf (f.offset / 32)) (.mgmtWrite (tapPart f (f.offset / 32))) (setPhase f ph s)).frame
  have hpass : t.pass = s.pass := by
    refine (takeOp_mgmtWrite_pass _ _ _).trans ?_
    rw [if_pos (show (setPhase f ph s).pass.stage = .idle from hidle)]
    rfl
  refine ⟨?_, fun b hb => (takeOp_bank_ne _ b _ _ hb).trans (setPhase_bank f ph s b), ?_⟩
  · change t = { setPhase f ph s with taps := t.taps, pass := t.pass, bankE := t.bankE, bankO := t.bankO } at hframe
    rw [hpass] at hframe
    exact hframe
  · exact (takeOp_mgmtWrite_taps _ _ _).trans (congrArg s.taps.writeAll (tapPart_all hformat hone))

/-- R83: the first addressed offset in a protected block. -/
theorem offsetIn_first {f : MgmtFrame} {b : Nat} {P : Nat → Prop} (hdata : 1 ≤ f.data.length) (hb : P b)
    (htouched : f.touches 32 b = true) (hfirst : ∀ x < b, f.touches 32 x = true → ¬ P x) :
    f.offset ≤ f.offsetIn 32 b ∧ f.offsetIn 32 b ≤ f.lastOffset ∧ P (f.offsetIn 32 b / 32) ∧
      ∀ o, f.offset ≤ o → o < f.offsetIn 32 b → ¬ P (o / 32) := by
  have hbounds := offset_le_lastOffset hdata
  simp only [MgmtFrame.touches, Bool.and_eq_true, decide_eq_true_eq] at htouched hfirst
  have hdiv : f.offsetIn 32 b / 32 = b := offsetIn_div (by decide) htouched.1
  refine ⟨le_max_left _ _, max_le hbounds ?_, by rwa [hdiv], fun o ho hlt => ?_⟩
  · omega
  · unfold MgmtFrame.offsetIn at hlt
    exact hfirst (o / 32) (by omega) ⟨by omega, by omega⟩

/-- Settles O21: the parts of the blocks addressed; what a part writes; and the count of the parts to come. -/
theorem tapsWriteWritesBlock : Obligations.TapsWriteWritesBlock := by
  unfold Obligations.TapsWriteWritesBlock
  refine ⟨fun f s hexec hformat hsize => ?_, fun b writes s hwf => ?_, fun b f writes n s hawake hbusy hmgmt => ?_⟩
  · intro guarded first last part
    have hguarded : ∀ b, protectedBlock s b = true ↔ guarded b := protectedBlock_iff s
    have hpart : ∀ b, part b = .mgmtWrite (tapPart f b) := fun b => by rw [tapPart, tapWrites_eq]
    obtain ⟨-, hlow, -⟩ := (writeFormatOk_iff f).1 hformat
    have hbounds := offset_le_lastOffset hlow
    have hrun := (exec_mwriteTaps_eq s).trans (onFrame_executing hexec writeTaps)
    refine ⟨fun hfree => ?_, fun ⟨b, hb, hb', hg⟩ => ?_⟩
    · have hnone : (f.touched 32).find? (protectedBlock s) = none := find?_touched_eq_none_iff.2 fun b hb => by
        simp only [MgmtFrame.touches, Bool.and_eq_true, decide_eq_true_eq] at hb
        rw [← Bool.not_eq_true, hguarded]
        exact hfree b hb.1 hb.2
      have hwrites := writeTaps_requests hformat hsize hnone
      have hone : first = last → writeTaps f s = request (bankOf first) (part first)
          { s with mgmt := .executing f (.writing 1) } := fun heq => by
        obtain ⟨-, htouched⟩ | ⟨htwo, -⟩ := touched_taps hformat
        · rw [hwrites, htouched, hpart]
          rfl
        · omega
      refine ⟨fun heq => ?_, fun hne => ?_, fun heq hwf hidle hbank => ?_⟩
      · rw [hrun, hone heq]
      · obtain ⟨hsame, -⟩ | ⟨htwo, htouched⟩ := touched_taps hformat
        · exact absurd hsame hne
        · refine ⟨htwo, ?_⟩
          rw [hrun, hwrites, htouched, hpart, hpart]
          rfl
      · obtain ⟨hframe, hother, htaps⟩ := takeOp_tapPart (ph := .writing 1) hformat heq hidle
        have hbank' : (setPhase f (.writing 1) s).bank (bankOf first) = ⟨none, none, none, none, none⟩ :=
          (setPhase_bank _ _ _ _).trans hbank
        refine ⟨_, ?_, hframe, hother, fun hflag => ?_, fun hflag => ?_⟩
        · rw [hrun, hone heq, hpart]
          exact congrArg (fun u => Host.Outcome.next (returnChoose u)) (if_pos (free_of_eq_idle hbank'))
        · rw [htaps]
          exact read_tapWrites_increment hwf hflag
        · rw [htaps]
          exact read_tapWrites_same hwf hflag
    · cases hfind : (f.touched 32).find? (protectedBlock s) with
      | none =>
        have hnot := find?_touched_eq_none hfind (e := b) (by simp [MgmtFrame.touches, first, last] at hb hb' ⊢; omega)
        rw [(hguarded b).2 hg] at hnot
        cases hnot
      | some e =>
        obtain ⟨he, htouched, hleast⟩ := find?_touched_eq_some.1 hfind
        obtain ⟨h1, h2, h3, h4⟩ := offsetIn_first (P := guarded) hlow ((hguarded e).1 he) htouched
          fun x hx hx' hg => by
            have hnot := hleast x hx hx'
            rw [(hguarded x).2 hg] at hnot
            cases hnot
        exact ⟨_, h1, h2, h3, h4, by rw [hrun, writeTaps_refused hformat hsize hfind]⟩
  · intro t
    refine ⟨(takeOp_only b _ s).frame, ?_, fun x hx => takeOp_bank_ne b x _ s hx, takeOp_mgmtWrite_pass b writes s,
      fun x a w y hwrites hy => ?_, fun a ha => ?_⟩
    · exact (countTapWrites_bank _ _ b).trans (bank_setBank _ _ _)
    · rw [takeOp_mgmtWrite_taps, hwrites]
      exact Store.read_writeAll_last hwf x y w hy
    · rw [takeOp_mgmtWrite_taps]
      exact Store.read_writeAll_out _ _ ha
  · refine exec_of_effect hawake ((tapOperationComplete_busy hbusy).trans ?_)
    have hkept : (takeNext b s).mgmt = .executing f (.writing (n + 1)) := by rw [takeNext_only b s]; exact hmgmt
    change deliverMgmtWrite (takeNext b s) = _
    simp only [deliverMgmtWrite, hkept, Nat.add_sub_cancel]

/-- Settles O22: the parts of the blocks addressed; and what a completed part leaves. -/
theorem tapsReadReturnsWords : Obligations.TapsReadReturnsWords := by
  unfold Obligations.TapsReadReturnsWords
  refine ⟨fun f s hexec hflag hlow hhigh hpayload hsize => ?_,
    fun b f second start words x y s hawake hbusy hmgmt => exec_of_effect hawake ?_⟩
  · intro first here
    have hformat : readFormatOk f false = true := (readFormatOk_iff f false).2 ⟨hpayload, hlow, hhigh, .inr hflag⟩
    have hbeyond : beyond f.offset (lastRead f) 16384 = none := (beyond_eq_none_iff _ _ _).2 (by unfold lastRead; omega)
    have hrun : exec .mreadTaps s = .next (returnChoose (requestReads f s)) := by
      rw [exec_mreadTaps_eq, onFrame_executing hexec, readTaps, if_pos hformat, hbeyond]
    refine ⟨fun hle => ?_, fun hlt => ?_⟩
    · have hn : min f.count ((f.offset / 32 + 1) * 32 - f.offset) = f.count := min_eq_left hle
      rw [hrun, requestReads]
      rw [hn, if_pos rfl]
      rfl
    · have hn : min f.count ((f.offset / 32 + 1) * 32 - f.offset) = here := min_eq_right hlt.le
      rw [hrun, requestReads]
      rw [hn, if_neg (by omega)]
      rfl
  · refine (tapOperationComplete_busy hbusy).trans ?_
    change deliverMgmtRead second words (checkParity (ParityBank.ofBank b) words (takeNext b s)) = _
    have hkept : (checkParity (ParityBank.ofBank b) words (takeNext b s)).mgmt = .executing f (.reading x y) := by
      rw [checkParity_mgmt, takeNext_only b s]
      exact hmgmt
    rw [ParityBank.ofBank_eq] at hkept ⊢
    simp only [deliverMgmtRead, hkept]

end Machine
end Sys2Proof

namespace Sys2Proof
namespace Machine

/-! ### Taking a report (R98 to R101) -/

def setGain (g : Vector Gain 96) (s : State) : State := { s with gain := g }

theorem incr_setGain (i : CounterId) (g : Vector Gain 96) (s : State) :
    incr i (setGain g s) = setGain g (incr i s) := by
  have h := incr_only i s
  refine (incr_over i s (setGain g s) rfl).trans ?_
  rw [h]; rfl

/-- R100: what REPORT_TAKE does with report r, which has left the queue. -/
def judge (r : Report) (s : State) : State :=
  if !s.slotTable[r.slot].adaptation then s
  else if 32768 ≤ lateness r.seq s.seq then incr (.slot r.slot .sequence) s
  else if 9 ≤ lateness r.seq s.seq then incr (.slot r.slot .late) s
  else if s.gain[r.slot].last.all (newer r.seq) then
    walkOn ⟨r.slot, r.seq, r.residual, s.gain[r.slot].mu, s.slotTable[r.slot].nMin, 0, false, false⟩ 0
      (incr (.slot r.slot .adapted) (setGain (s.gain.set r.slot { s.gain[r.slot] with last := some r.seq }) s))
  else incr (.slot r.slot .stale) s

theorem reportTake_eq {r : Report} {rest : List Report} {s : State} (hidle : s.engine = none)
    (hreports : s.reports = r :: rest) : reportTake s = judge r { s with reports := rest } := by
  unfold reportTake
  rw [hidle, hreports]
  rfl

theorem newer_iff (r a : Word) : newer r a = true ↔ 1 ≤ (r - a).toNat ∧ (r - a).toNat ≤ 32767 := by
  simp only [newer, Bool.and_eq_true, decide_eq_true_eq]

section
variable {r : Report} {s : State} (hon : s.slotTable[r.slot].adaptation = true)
include hon

theorem judge_sequence (h : 32768 ≤ (s.seq - r.seq).toNat) : judge r s = incr (.slot r.slot .sequence) s := by
  rw [judge, hon, if_neg (by decide), lateness, if_pos h]

theorem judge_late (hlow : 9 ≤ (s.seq - r.seq).toNat) (hhigh : (s.seq - r.seq).toNat ≤ 32767) :
    judge r s = incr (.slot r.slot .late) s := by
  rw [judge, hon, if_neg (by decide), lateness, if_neg (by omega), if_pos hlow]

theorem judge_recent (h : (s.seq - r.seq).toNat ≤ 8) : judge r s =
    if s.gain[r.slot].last.all (newer r.seq) then
      walkOn ⟨r.slot, r.seq, r.residual, s.gain[r.slot].mu, s.slotTable[r.slot].nMin, 0, false, false⟩ 0
        (incr (.slot r.slot .adapted) (setGain (s.gain.set r.slot { s.gain[r.slot] with last := some r.seq }) s))
    else incr (.slot r.slot .stale) s := by
  rw [judge, hon, if_neg (by decide), lateness, if_neg (by omega), if_neg (by omega)]

theorem judge_stale (h : (s.seq - r.seq).toNat ≤ 8) {a : Word} (hlast : s.gain[r.slot].last = some a)
    (hold : (r.seq - a).toNat = 0 ∨ 32768 ≤ (r.seq - a).toNat) : judge r s = incr (.slot r.slot .stale) s := by
  have hnot : ¬ newer r.seq a = true := by rw [newer_iff]; omega
  rw [judge_recent hon h, hlast, Option.all_some, if_neg hnot]

theorem judge_accepted (h : (s.seq - r.seq).toNat ≤ 8)
    (hnew : ∀ a, s.gain[r.slot].last = some a → 1 ≤ (r.seq - a).toNat ∧ (r.seq - a).toNat ≤ 32767) :
    judge r s = walkOn ⟨r.slot, r.seq, r.residual, s.gain[r.slot].mu, s.slotTable[r.slot].nMin, 0, false, false⟩ 0
      (setGain (s.gain.set r.slot { s.gain[r.slot] with last := some r.seq }) (incr (.slot r.slot .adapted) s)) := by
  have hall : s.gain[r.slot].last.all (newer r.seq) = true :=
    (Option.all_eq_true _ _).2 fun a ha => (newer_iff _ _).2 (hnew a ha)
  rw [judge_recent hon h, if_pos hall, incr_setGain]

end

/-- Settles O23: the report's lateness and age, against the bounds of each clause. -/
theorem reportTakeJudges : Obligations.ReportTakeJudges := by
  unfold Obligations.ReportTakeJudges
  intro r rest s hawake hidle hreports taken late
  have hexec {u : State} (h : judge r taken = u) : exec .reportTake s = .next (returnChoose u) :=
    exec_of_effect hawake ((reportTake_eq hidle hreports).trans h)
  refine ⟨fun hoff => hexec ?_, fun hon => ⟨fun h => hexec (judge_sequence hon h),
    fun hlow hhigh => hexec (judge_late hon hlow hhigh), fun h a hlast hold => hexec (judge_stale hon h hlast hold),
    fun h hnew => ⟨_, hexec (judge_accepted hon h hnew), walkOn_goesOn _ _ _⟩⟩⟩
  have htable : taken.slotTable[r.slot].adaptation = false := hoff
  rw [judge, htable, if_pos (by decide)]

/-! ### The update of one path (R101 to R107) -/

theorem pushPending_iff (s : State) : pushPending s = true ↔ s.pass.stage = .push ∨ s.pass.waiting ≠ 0 := by
  simp only [pushPending, Bool.or_eq_true, beq_iff_eq, bne_iff_ne]

theorem energy_eq_sum (xs : List Word) : energy xs = (xs.map fun x => x.toInt.natAbs ^ 2).sum := by
  induction xs with
  | nil => rfl
  | cons x xs ih => rw [energy, ih, List.map_cons, List.sum_cons, magnitude, sq]

theorem normExponent_of_ne_zero (nMin : Nat) {e : Nat} (h : e ≠ 0) :
    normExponent nMin e = max (Nat.log2 e + 1) nMin := by
  rw [normExponent, bitLength, if_neg h]

section
variable {v : Service} {s : State} (hengine : s.engine = some v)
include hengine

theorem adaptPathUpdate_waits (h : v.updating = true ∨ s.pass.stage = .push ∨ s.pass.waiting ≠ 0) :
    adaptPathUpdate s = s := by
  simp only [adaptPathUpdate, hengine]
  exact if_pos (by rwa [Bool.or_eq_true, pushPending_iff])

section
variable (hupdating : v.updating = false) (hstage : s.pass.stage ≠ .push) (hwaiting : s.pass.waiting = 0)
include hupdating hstage hwaiting

theorem adaptPathUpdate_next {i : Nat} {e : PathEntry}
    (hnext : nextAdaptive s.pathTable v.slot v.pathPos = some (i, e)) : adaptPathUpdate s = beginUpdate v i e s := by
  have hpush : ¬ pushPending s = true := by rw [pushPending_iff]; exact fun h => h.elim hstage (· hwaiting)
  simp only [adaptPathUpdate, hengine, hupdating, Bool.false_or, hnext]
  exact if_neg hpush

theorem adaptPathUpdate_over (hnext : nextAdaptive s.pathTable v.slot v.pathPos = none) :
    adaptPathUpdate s = walkOn v v.pathPos s := by
  have hpush : ¬ pushPending s = true := by rw [pushPending_iff]; exact fun h => h.elim hstage (· hwaiting)
  simp only [adaptPathUpdate, hengine, hupdating, Bool.false_or, hnext]
  exact if_neg hpush

end

end

section
variable (v : Service) (i : Nat) (e : PathEntry) (s : State)

theorem beginUpdate_outdated (h : 47 < (s.seq - (v.seq - BitVec.ofNat 16 (e.delay + (e.taps - 1)))).toNat) :
    beginUpdate v i e s = walkOn v (i + 1) (incr (.slot v.slot .late) s) := by
  have hnot : ¬ windowHeld s v e = true := by unfold windowHeld lateness; rw [decide_eq_true_eq]; omega
  rw [beginUpdate, if_neg hnot]

theorem beginUpdate_held (h : (s.seq - (v.seq - BitVec.ofNat 16 (e.delay + (e.taps - 1)))).toNat ≤ 47) :
    beginUpdate v i e s =
      if energy ((historyRead s e.source (spanStart s v e) e.taps).map StoredWord.orZero) = 0 then
        walkOn v (i + 1) (checkParity .h (historyRead s e.source (spanStart s v e) e.taps) s)
      else
        request (bankOf e.block.1) (.adaptUpdate e.block
          (((historyRead s e.source (spanStart s v e) e.taps).map StoredWord.orZero).map (delta v.mu
            (normExponent v.nMin (energy ((historyRead s e.source (spanStart s v e) e.taps).map StoredWord.orZero)))
            v.residual)))
          { checkParity .h (historyRead s e.source (spanStart s v e) e.taps) s with
            engine := some { v with pathPos := i, updating := true } } := by
  have hheld : windowHeld s v e = true := decide_eq_true h
  rw [beginUpdate, if_pos hheld]

end

/-- Settles O24: no path left; a path whose window is gone; one with no energy; one whose deltas are requested. -/
theorem pathUpdateFormsDeltas : Obligations.PathUpdateFormsDeltas := by
  unfold Obligations.PathUpdateFormsDeltas
  intro v s hawake hengine
  refine ⟨fun h => exec_of_effect hawake (adaptPathUpdate_waits hengine h), fun hupdating hstage hwaiting => ?_⟩
  refine ⟨fun hnone => ?_, fun j hj ha hk => ?_⟩
  · have hserves := adaptPathUpdate_over hengine hupdating hstage hwaiting
      (nextAdaptive_none s v.slot v.pathPos hnone)
    exact ⟨_, exec_of_effect hawake hserves, walkOn_goesOn _ _ _⟩
  · have hserves := adaptPathUpdate_next hengine hupdating hstage hwaiting
      (nextAdaptive_some s v.slot v.pathPos j hj ha hk)
    intro e oldest
    refine ⟨fun h => ⟨_, exec_of_effect hawake (hserves.trans (beginUpdate_outdated v j e s h)),
      walkOn_goesOn _ _ _⟩, fun h => ?_⟩
    have hbegin := hserves.trans (beginUpdate_held v j e s h)
    rw [historyRead_eq_map, energy_eq_sum] at hbegin
    intro late words xs energy n
    refine ⟨fun hzero => ⟨_, exec_of_effect hawake (hbegin.trans (if_pos hzero)), walkOn_goesOn _ _ _⟩,
      fun hne => exec_of_effect hawake (hbegin.trans ((if_neg hne).trans ?_))⟩
    have hexponent : normExponent v.nMin energy = n := normExponent_of_ne_zero _ hne
    rw [bankOf_eq]
    exact congrArg (fun m => request _ (.adaptUpdate e.block (xs.map (delta v.mu m v.residual))) _) hexponent

/-! ### The completion of an update (R107, R109 to R111) -/

theorem deliverAdapt_eq {v : Service} {s : State} (h : s.engine = some v) (n : Nat) :
    deliverAdapt n s = if v.abandon then { incrTimes (.slot v.slot .saturation) n s with engine := none }
      else walkOn v (v.pathPos + 1) (incrTimes (.slot v.slot .saturation) n s) := by
  simp only [deliverAdapt, h]

/-- Settles O26: the delivery of an update's result to the engine, abandoned or not. -/
theorem updateCompletionStepsGain : Obligations.UpdateCompletionStepsGain := by
  unfold Obligations.UpdateCompletionStepsGain
  intro b blk ds words n v s hawake hbusy hengine counted
  have hkept : (checkParity (ParityBank.ofBank b) words (takeNext b s)).engine = some v := by
    rw [checkParity_engine, takeNext_only b s]
    exact hengine
  have hdeliver : tapOperationComplete b s =
      if v.abandon then { counted with engine := none } else walkOn v (v.pathPos + 1) counted := by
    refine (tapOperationComplete_busy hbusy).trans ((deliverAdapt_eq hkept n).trans ?_)
    rw [ParityBank.ofBank_eq]
  refine ⟨fun h => exec_of_effect hawake (hdeliver.trans (if_pos h)),
    fun h => ⟨_, exec_of_effect hawake (hdeliver.trans (if_neg ?_)), walkOn_goesOn _ _ _⟩⟩
  rw [h]
  exact Bool.false_ne_true

end Machine
end Sys2Proof

namespace Sys2Proof
namespace Machine

/-! ### Statuses and entries at a channel (R69, R145 to R150, R156) -/

/-- R145 to R147: what a status does to a channel in RUN or PROBE. -/
theorem channelStatus_serving {t : Fin 96} {s : State} (h : s.channels[t].state = .run ∨ s.channels[t].state = .probe)
    (k : SentKind) : channelStatus t k .accept s = channelAccept t s ∧ channelStatus t k .defer s = channelDefer t s ∧
      channelStatus t k .fault s = channelFault t s := by
  rcases h with h | h <;> simp only [channelStatus, h, and_self]

theorem channelStatus_halting {t : Fin 96} {s : State} (h : s.channels[t].state = .halting) (k : SentKind)
    (st : AnswerStatus) :
    channelStatus t k st s = if k = .halt then setChannel t (Channel.haltedFor .command) s else s := by
  cases k <;> simp [-Fin.getElem_fin, channelStatus, h]

theorem withoutTimed_eq (t : Fin 96) (s : State) : withoutTimed t s = flushTimed t s := rfl

/-- Settles O31: the channel's state, and then the status. -/
theorem channelTakesStatus : Obligations.ChannelTakesStatus := by
  unfold Obligations.ChannelTakesStatus
  intro t k st s
  refine ⟨fun h => ?_, fun h => ?_, fun h => (channelStatus_serving h k).2.2, fun h => channelStatus_halting h k st⟩
  · obtain ⟨haccept, hdefer, -⟩ := channelStatus_serving (.inl h) k
    have hnot : ¬ s.channels[t].state = .probe := fun hprobe => by cases h.symm.trans hprobe
    exact ⟨haccept.trans (if_neg hnot), hdefer.trans (if_pos h)⟩
  · obtain ⟨haccept, hdefer, -⟩ := channelStatus_serving (.inr h) k
    have hnot : ¬ s.channels[t].state = .run := fun hrun => by cases h.symm.trans hrun
    exact ⟨haccept.trans (if_pos h), hdefer.trans (if_neg hnot)⟩

theorem handOver_joins {e : TimedEntry} {s : State} (h : s.channels[e.slot].state = e.kind.channelState) :
    handOver e s = laneChoose (slotLane e.slot) (joinTimed e s) := if_pos h

theorem handOver_discards {e : TimedEntry} {s : State} (h : s.channels[e.slot].state ≠ e.kind.channelState) :
    handOver e s = s := if_neg h

/-- Settles O34: the entry's kind against the channel's state. -/
theorem handOverJoinsQueue : Obligations.HandOverJoinsQueue := by
  unfold Obligations.HandOverJoinsQueue
  intro t q v c s l joined
  refine ⟨fun h => ⟨handOver_joins h, handOver_discards ?_⟩, fun h => ⟨handOver_joins h, handOver_discards ?_⟩,
    fun hrun hprobe => ⟨handOver_discards hrun, handOver_discards hprobe⟩⟩
  · intro hprobe
    cases h.symm.trans hprobe
  · intro hrun
    cases h.symm.trans hrun

/-! ### Entry to UP and to DOWN (R118 to R121, R152, R153) -/

theorem laneEmpty_emptied (l : Fin 4) (s : State) : LaneEmptied l s (laneEmpty l s) where
  frame := rfl
  lanes := rfl
  own t ht := by
    rw [laneEmpty_outstanding_get, laneEmpty_channels_get, if_pos ht, if_pos ht, Channel.laneLost_eq]
    exact ⟨rfl, rfl⟩
  others t ht := by
    rw [laneEmpty_outstanding_get, laneEmpty_channels_get, if_neg ht, if_neg ht]
    exact ⟨rfl, rfl⟩

theorem insertByRank_perm (r : Nat → Nat) (t : Nat) (xs : List Nat) : (insertByRank r t xs).Perm (t :: xs) := by
  induction xs with
  | nil => exact .refl _
  | cons x xs ih =>
    unfold insertByRank
    split
    · exact .refl _
    · exact (ih.cons x).trans (.swap t x xs)

/-- Log entry 5: the free order is an order of the same slots. -/
theorem sortByRank_perm (r : Nat → Nat) (xs : List Nat) : (sortByRank r xs).Perm xs := by
  induction xs with
  | nil => exact .refl _
  | cons x xs ih => exact (insertByRank_perm r x _).trans (ih.cons x)

/-- R153: the members of the list of slots that an entry to UP resumes. -/
theorem mem_resumedSlots {l : Fin 4} {s : State} (t : Fin 96) :
    t.1 ∈ resumedSlots l s ↔ slotLane t = l ∧ resumable s.channels[t] s.slotTable[t] = true := by
  have hat : (s.channels.toList.zip s.slotTable.toList)[t.1]? = some (s.channels[t], s.slotTable[t]) := by
    rw [List.getElem?_zip_eq_some]
    exact ⟨toList_getElem?_fin _ _, toList_getElem?_fin _ _⟩
  rw [← onLane_iff, ← Bool.and_eq_true]
  unfold resumedSlots
  rw [List.mem_filterMap]
  constructor
  · rintro ⟨x, hx, hi⟩
    obtain ⟨j, hj⟩ := List.getElem?_of_mem hx
    rw [mapFrom_getElem?] at hj
    obtain ⟨ce, hce, rfl⟩ := Option.map_eq_some_iff.1 hj
    obtain ⟨hon, hjt⟩ := Option.ite_none_right_eq_some.1 hi
    simp only [Nat.zero_add, Option.some.injEq] at hjt
    subst hjt
    cases hce.symm.trans hat
    simpa only [Nat.zero_add] using hon
  · intro hon
    refine ⟨(t.1, true), List.mem_of_getElem? (i := t.1) ?_, rfl⟩
    rw [mapFrom_getElem?, hat, Option.map_some, Nat.zero_add, hon]

theorem resumedSlots_nodup (l : Fin 4) (s : State) : (resumedSlots l s).Nodup := by
  unfold resumedSlots
  refine List.Nodup.filterMap (fun x y i hx hy => ?_) (List.nodup_iff_getElem?_ne_getElem?.2 fun i j hij hj => ?_)
  · obtain ⟨hx', hxi⟩ := Option.ite_none_right_eq_some.1 hx
    obtain ⟨hy', hyi⟩ := Option.ite_none_right_eq_some.1 hy
    exact Prod.ext (Option.some.inj (hxi.trans hyi.symm)) (hx'.trans hy'.symm)
  · intro heq
    rw [List.getElem?_eq_getElem hj, mapFrom_getElem?] at heq
    obtain ⟨a, -, ha⟩ := Option.map_eq_some_iff.1 heq
    have hj' := List.getElem?_eq_getElem hj
    rw [mapFrom_getElem?, ← ha] at hj'
    obtain ⟨b, -, hb⟩ := Option.map_eq_some_iff.1 hj'
    have hfst := congrArg Prod.fst hb
    simp only at hfst
    omega

theorem resumable_iff (c : Channel) (e : SlotEntry) :
    resumable c e = true ↔ c.state = .halted ∧ c.cause = some .lane ∧ e.autoResume = true := by
  simp only [resumable, Bool.and_eq_true, beq_iff_eq, and_assoc]

/-- Settles O27: a report of the other lock state, an UP lane emptied, and a DOWN lane with its resumed slots. -/
theorem laneLockReports : Obligations.LaneLockReports := by
  unfold Obligations.LaneLockReports
  intro l s hawake
  refine ⟨fun hup => ⟨exec_of_effect hawake (if_pos hup),
    laneEmpty l s, exec_of_effect hawake (if_pos hup), laneEmpty_emptied l s⟩, fun hdown => ?_⟩
  have hnot : ¬ s.lanes[l].up = true := by rw [hdown]; exact Bool.false_ne_true
  have hperm := sortByRank_perm (Config.resumeRank s.resumes) (resumedSlots l s)
  refine ⟨exec_of_effect hawake (if_neg hnot), _, laneUp l s,
    exec_of_effect hawake ((if_neg hnot).trans (laneEnterUp_eq l s)), hperm.nodup_iff.2 (resumedSlots_nodup l s), rfl,
    rfl, fun n hn => resumedSlots_lt (hperm.mem_iff.1 hn), fun t => ?_⟩
  have hiff := and_congr_right (a := slotLane t = l) fun _ => resumable_iff s.channels[t] s.slotTable[t]
  rw [hperm.mem_iff, mem_resumedSlots, laneUp_channels_get]
  exact ⟨hiff, fun h => if_pos (hiff.2 h), fun h => if_neg (mt hiff.1 h)⟩

/-! ### The end of a transmission and of an answer window (R125, R131, R148 to R150) -/

/-- R148: a CORRECT or PROBE frame's window expires in RUN or PROBE. -/
theorem channelExpiry_serving {t : Fin 96} {k : SentKind} {s : State}
    (h : s.channels[t].state = .run ∨ s.channels[t].state = .probe) (hk : k ≠ .halt) :
    channelExpiry t k s = channelMiss t s := by
  cases k with
  | correct | probe => rcases h with h | h <;> simp only [channelExpiry, h]
  | halt => exact absurd rfl hk

/-- R149, R150: a window expires in HALTING. -/
theorem channelExpiry_halting {t : Fin 96} {s : State} (h : s.channels[t].state = .halting) (k : SentKind) :
    channelExpiry t k s = if k = .halt then channelHaltTimeout t s else s := by
  cases k <;> simp [-Fin.getElem_fin, channelExpiry, h]

theorem answerWindowExpiry_eq {l : Fin 4} {t : Fin 96} {r : OutRecord} {s : State} (hlane : slotLane t = l)
    (hrecord : s.outstanding[t] = some r) :
    answerWindowExpiry l t s = laneChoose l (channelExpiry t r.kind (setOutstanding t none s)) := by
  simp only [answerWindowExpiry, if_pos hlane, hrecord]

/-- Settles O32: the record enters at the frame's end; at its expiry the channel's state and the record's kind
decide. -/
theorem laneRecordsComeAndGo : Obligations.LaneRecordsComeAndGo := by
  unfold Obligations.LaneRecordsComeAndGo
  refine ⟨fun l x s hawake htx => exec_of_effect hawake ?_, fun l t r s hawake hlane hrecord => ?_⟩
  · change laneTransmitEnd l s = _
    simp only [laneTransmitEnd, htx, incr_laneTable]
    rfl
  · have hexpiry := answerWindowExpiry_eq hlane hrecord
    refine ⟨fun hserving hkind => exec_of_effect hawake (hexpiry.trans (congrArg (laneChoose l) ?_)),
      fun hhalting => exec_of_effect hawake (hexpiry.trans (congrArg (laneChoose l) ?_))⟩
    · exact channelExpiry_serving (s := setOutstanding t none s) hserving hkind
    · exact channelExpiry_halting (s := setOutstanding t none s) hhalting r.kind

end Machine
end Sys2Proof

namespace Sys2Proof
namespace Machine

/-! ### The class of a frame on a lane (R128) -/

/-- R128 check 1, as it reads on a header made of its parts. -/
theorem laneHeaderOk_header (l : Fin 4) {k a n : Nat} (hk : k < 16) (ha : a < 128) (hn : n < 32) :
    laneHeaderOk l (header k a n) = true ↔ k = 8 ∧ 24 * l.1 ≤ a ∧ a ≤ 24 * l.1 + 23 ∧ 2 ≤ n ∧ n ≤ 5 := by
  simp only [laneHeaderOk, headerKind_header hk ha hn, headerAddress_header hk ha hn, headerLength_header hk ha hn,
    Bool.and_eq_true, beq_iff_eq, decide_eq_true_eq, and_assoc]

theorem laneClass_format {l : Fin 4} {k a n : Nat} (hk : k < 16) (ha : a < 128) (hn : n < 32)
    (h : k ≠ 8 ∨ a < 24 * l.1 ∨ 24 * l.1 + 23 < a ∨ n < 2 ∨ 5 < n) (ws : List Word) (m b : Bool) :
    laneClass l ⟨header k a n :: ws, m⟩ b = .format := by
  have hbad : laneHeaderOk l (header k a n) = false := by
    rw [Bool.eq_false_iff, Ne, laneHeaderOk_header l hk ha hn]
    omega
  simp only [laneClass, hbad, Bool.not_false, if_true]

/-- R128 check 5: what a frame is whose length and CRC pass. -/
def statusClass (ws : List Word) : FrameClass := if (AnswerStatus.ofCode (wordAt ws 2)).isNone then .format else .valid

/-- R128: where the header passes its check, the length and the CRC decide, and then the status code. -/
theorem laneClass_eq_lengthClass {l : Fin 4} {t : Fin 96} (ht : slotLane t = l) {n : Nat} (hlow : 2 ≤ n) (hhigh : n ≤ 5)
    (ws : List Word) (m b : Bool) : laneClass l ⟨header 8 t.1 n :: ws, m⟩ b =
      lengthClass n ⟨header 8 t.1 n :: ws, m⟩ b (statusClass (header 8 t.1 n :: ws)) := by
  have hdiv : t.1 / 24 = l.1 := congrArg Fin.val ht
  have ha : t.1 < 128 := by omega
  have hok : laneHeaderOk l (header 8 t.1 n) = true :=
    (laneHeaderOk_header l (by decide) ha (by omega)).2 ⟨rfl, by omega, by omega, hlow, hhigh⟩
  simp only [laneClass, hok, Bool.not_true, Bool.false_eq_true, if_false,
    headerLength_header (k := 8) (n := n) (by decide) ha (by omega)]
  rfl

theorem ofCode_isNone_iff (w : Word) : (AnswerStatus.ofCode w).isNone = true ↔ ¬ (w = 1 ∨ w = 2 ∨ w = 3) := by
  unfold AnswerStatus.ofCode
  split
  · next h => simp [h]
  · split
    · next h => simp [h]
    · split
      · next h => simp [h]
      · next h1 h2 h3 => exact iff_of_true rfl fun h => h.elim h1 fun h => h.elim h2 h3

/-- R128: the frame as it was sent, unmarked. -/
theorem laneClass_whole {l : Fin 4} {t : Fin 96} (ht : slotLane t = l) {xs : List Word} (hlow : 2 ≤ xs.length)
    (hhigh : xs.length ≤ 5) : laneClass l ⟨withCrc (header 8 t.1 xs.length :: xs), false⟩ false =
      if xs[1]? = some 1 ∨ xs[1]? = some 2 ∨ xs[1]? = some 3 then .valid else .format := by
  have hlength : (header 8 t.1 xs.length :: xs).length = xs.length + 1 := rfl
  have hcode : wordAt (withCrc (header 8 t.1 xs.length :: xs)) 2 = xs[1] := by
    simp only [wordAt, withCrc, List.getD_eq_getElem?_getD]
    rw [List.getElem?_append_left (by simp; omega), List.getElem?_cons_succ, List.getElem?_eq_getElem (by omega)]
    rfl
  refine (laneClass_eq_lengthClass ht hlow hhigh (xs ++ [crc16 _]) false false).trans ?_
  refine (lengthClass_withCrc hlength _ false).trans ?_
  rw [if_neg (by decide), List.getElem?_eq_getElem (by omega)]
  simp only [Option.some.injEq]
  change (if (AnswerStatus.ofCode (wordAt (withCrc (header 8 t.1 xs.length :: xs)) 2)).isNone then
    FrameClass.format else .valid) = _
  rw [hcode]
  by_cases h : xs[1] = 1 ∨ xs[1] = 2 ∨ xs[1] = 3
  · rw [if_pos h, if_neg (fun hnone => (ofCode_isNone_iff _).1 hnone h)]
  · rw [if_neg h, if_pos ((ofCode_isNone_iff _).2 h)]

/-! ### What a frame's end and the marks do to a lane (R119, R120, R127, R128) -/

/-- A lane's emptying leaves nothing of what the lane held. -/
theorem laneEmpty_setLane (l : Fin 4) (k : Lane) (s : State) : laneEmpty l (setLane l k s) = laneEmpty l s := by
  have hlanes := congrArg State.lanes (setLane_setLane l (downLane s.laneTable[l].divisor) k s)
  exact congrArg (fun v => { laneEmpty l s with lanes := v }) hlanes

theorem laneEnterDown_setLane (l : Fin 4) (k : Lane) (s : State) :
    laneEnterDown l (setLane l k s) = laneEnterDown l s := by
  rw [laneEnterDown, laneEmpty_setLane, laneEnterDown]

theorem laneEnterDown_down (l : Fin 4) (s : State) : (laneEnterDown l s).lanes[l].up = false := by
  rw [laneEnterDown, raise_lanes, laneEmpty_lanes_get, if_pos rfl]
  rfl

theorem laneLinkError_down {l : Fin 4} {s : State} (h : s.lanes[l].up = false) : laneLinkError l s = s :=
  if_neg (by rw [h]; exact Bool.false_ne_true)

theorem laneOpenFrame_down {l : Fin 4} {s : State} (h : s.lanes[l].up = false) : laneOpenFrame l s = s :=
  if_neg (by rw [h]; exact Bool.false_ne_true)

theorem laneLinkError_up {l : Fin 4} {s : State} (h : s.lanes[l].up = true) : laneLinkError l s =
    if s.laneTable[l].errorThreshold ≤ s.lanes[l].linkErrors + 1 then laneEnterDown l s
    else setLane l { s.lanes[l] with linkErrors := s.lanes[l].linkErrors + 1 } s := if_pos h

theorem laneLinkError_setLane {l : Fin 4} {k : Lane} (h : k.up = true) (s : State) : laneLinkError l (setLane l k s) =
    if s.laneTable[l].errorThreshold ≤ k.linkErrors + 1 then laneEnterDown l s
    else setLane l { k with linkErrors := k.linkErrors + 1 } s := by
  have hup : (setLane l k s).lanes[l].up = true := by rw [setLane_get]; exact h
  rw [laneLinkError_up hup, laneEnterDown_setLane, setLane_get, setLane_setLane]
  rfl

theorem laneOpenFrame_setLane {l : Fin 4} {k : Lane} (h : k.up = true) (s : State) :
    laneOpenFrame l (setLane l k s) = setLane l { k with rx := some ⟨[], false⟩ } s := by
  have hup : (setLane l k s).lanes[l].up = true := by rw [setLane_get]; exact h
  rw [laneOpenFrame, if_pos hup, setLane_get, setLane_setLane]

/-- The counter of each class of frame that a lane discards. -/
def laneDiscards : List (FrameClass × LaneCtr) :=
  [(.damaged, .damaged), (.short, .short), (.format, .format), (.babble, .babble)]

/-- R119, R128: a discarded frame is counted by its class; a BABBLE frame is a link error besides. -/
theorem laneFrameEnd_discards {l : Fin 4} {f : RxFrame} {b : Bool} {cls : FrameClass} {ctr : LaneCtr}
    (hclass : laneClass l f b = cls) (hctr : (cls, ctr) ∈ laneDiscards) (s : State) : laneFrameEnd l f b s =
      if cls = .babble then laneLinkError l (setLane l { s.lanes[l] with rx := none } (incr (.lane l ctr) s))
      else setLane l { s.lanes[l] with rx := none } (incr (.lane l ctr) s) := by
  unfold laneFrameEnd
  simp only [hclass]
  simp only [laneDiscards, List.mem_cons, Prod.mk.injEq, List.not_mem_nil, or_false] at hctr
  rcases hctr with ⟨rfl, rfl⟩ | ⟨rfl, rfl⟩ | ⟨rfl, rfl⟩ | ⟨rfl, rfl⟩ <;> simp only [incr_setLane] <;> rfl

section
variable {l : Fin 4} {k : Lane} (hup : k.up = true) (s : State)
include hup

/-- A link error on lane l, holding k, and then a start mark. -/
theorem laneOpenFrame_linkError : laneOpenFrame l (laneLinkError l (setLane l k s)) =
    if s.laneTable[l].errorThreshold ≤ k.linkErrors + 1 then laneEnterDown l s
    else setLane l { k with linkErrors := k.linkErrors + 1, rx := some ⟨[], false⟩ } s := by
  rw [laneLinkError_setLane hup]
  split
  · exact laneOpenFrame_down (laneEnterDown_down l s)
  · exact laneOpenFrame_setLane (k := { k with linkErrors := k.linkErrors + 1 }) hup s

theorem laneOpenFrame_linkErrors : laneOpenFrame l (laneLinkError l (laneLinkError l (setLane l k s))) =
    if s.laneTable[l].errorThreshold ≤ k.linkErrors + 2 then laneEnterDown l s
    else setLane l { k with linkErrors := k.linkErrors + 2, rx := some ⟨[], false⟩ } s := by
  rw [laneLinkError_setLane hup]
  by_cases hfirst : s.laneTable[l].errorThreshold ≤ k.linkErrors + 1
  · have hdown := laneEnterDown_down l s
    rw [if_pos hfirst, laneLinkError_down hdown, laneOpenFrame_down hdown, if_pos (by omega)]
  · rw [if_neg hfirst]
    exact laneOpenFrame_linkError (k := { k with linkErrors := k.linkErrors + 1 }) hup s

end

/-- Log entry 6: a misplaced start mark ends the frame being collected, counts, and opens a frame. -/
theorem laneStartMark_discards {l : Fin 4} {f : RxFrame} {cls : FrameClass} {ctr : LaneCtr} {s : State}
    (hup : s.lanes[l].up = true) (hrx : s.lanes[l].rx = some f) (hclass : laneClass l f true = cls)
    (hctr : (cls, ctr) ∈ laneDiscards) : laneStartMark l s =
      if s.laneTable[l].errorThreshold ≤ s.lanes[l].linkErrors + (if cls = .babble then 2 else 1) then
        laneEnterDown l (incr (.lane l ctr) s)
      else setLane l { s.lanes[l] with
        linkErrors := s.lanes[l].linkErrors + (if cls = .babble then 2 else 1)
        rx := some ⟨[], false⟩ } (incr (.lane l ctr) s) := by
  have hstart : laneStartMark l s = laneOpenFrame l (laneLinkError l (laneFrameEnd l f true s)) := by
    simp only [laneStartMark, hup, hrx, if_true]
  have htable : (incr (.lane l ctr) s).laneTable = s.laneTable := incr_laneTable _ _
  rw [hstart, laneFrameEnd_discards hclass hctr, ← htable]
  by_cases hbabble : cls = .babble
  · rw [if_pos hbabble, if_pos hbabble]
    exact laneOpenFrame_linkErrors (k := { s.lanes[l] with rx := none }) hup _
  · rw [if_neg hbabble, if_neg hbabble]
    exact laneOpenFrame_linkError (k := { s.lanes[l] with rx := none }) hup _

theorem laneMarks_down {l : Fin 4} {s : State} (h : s.lanes[l].up = false) (w : Word) : laneStartMark l s = s ∧
    laneWordReceived l w s = s ∧ laneSymbolError l s = s ∧ laneEndMark l s = s := by
  have hnot : ¬ s.lanes[l].up = true := by rw [h]; exact Bool.false_ne_true
  exact ⟨if_neg hnot, if_neg hnot, if_neg hnot, if_neg hnot⟩

theorem laneWordReceived_up {l : Fin 4} {s : State} (h : s.lanes[l].up = true) (w : Word) : laneWordReceived l w s =
    setLane l { s.lanes[l] with rx := s.lanes[l].rx.map (fun f => { f with words := f.words ++ [w] }) } s := if_pos h

theorem laneSymbolError_up {l : Fin 4} {s : State} (h : s.lanes[l].up = true) : laneSymbolError l s =
    if s.laneTable[l].errorThreshold ≤ s.lanes[l].linkErrors + 1 then laneEnterDown l s
    else setLane l { s.lanes[l] with
      linkErrors := s.lanes[l].linkErrors + 1
      rx := s.lanes[l].rx.map (fun f => { f with marked := true }) } s :=
  (if_pos h).trans (laneLinkError_setLane
    (k := { s.lanes[l] with rx := s.lanes[l].rx.map (fun f => { f with marked := true }) }) h s)

theorem laneEndMark_idle {l : Fin 4} {s : State} (hup : s.lanes[l].up = true) (hrx : s.lanes[l].rx = none) :
    laneEndMark l s = laneLinkError l s := by
  simp only [laneEndMark, hup, hrx, if_true]

theorem laneEndMark_collecting {l : Fin 4} {f : RxFrame} {s : State} (hup : s.lanes[l].up = true)
    (hrx : s.lanes[l].rx = some f) : laneEndMark l s = laneFrameEnd l f false s := by
  simp only [laneEndMark, hup, hrx, if_true]

theorem laneStartMark_idle {l : Fin 4} {s : State} (hup : s.lanes[l].up = true) (hrx : s.lanes[l].rx = none) :
    laneStartMark l s = setLane l { s.lanes[l] with rx := some ⟨[], false⟩ } s := by
  have hopen : laneStartMark l s = laneOpenFrame l s := (if_pos hup).trans (by rw [hrx])
  exact hopen.trans (if_pos hup)

/-- Settles O28: each event on a DOWN lane, on an idle line, and with a frame being collected. -/
theorem laneCollectsFrame : Obligations.LaneCollectsFrame := by
  unfold Obligations.LaneCollectsFrame
  intro l w s hawake k threshold
  refine ⟨fun hdown => ?_, fun hup => ⟨fun hrx => ⟨?_, ?_⟩, fun f hrx => ?_, fun hbelow => ⟨?_, fun hrx => ?_⟩,
    fun hat => ⟨_, laneEmpty_emptied l s, ?_, fun hrx => ?_⟩, fun f cls ctr hrx hclass hctr => ?_⟩⟩
  · obtain ⟨hstart, hword, herror, hend⟩ := laneMarks_down hdown w
    exact ⟨exec_of_effect hawake hstart, exec_of_effect hawake hword, exec_of_effect hawake herror,
      exec_of_effect hawake hend⟩
  · exact exec_of_effect hawake (laneStartMark_idle hup hrx)
  · refine exec_of_effect hawake ((laneWordReceived_up hup w).trans ?_)
    rw [hrx, Option.map_none, ← hrx]
    exact setLane_self l s
  · refine exec_of_effect hawake ((laneWordReceived_up hup w).trans ?_)
    rw [hrx]
    rfl
  · exact exec_of_effect hawake ((laneSymbolError_up hup).trans (if_neg (not_le.2 hbelow)))
  · exact exec_of_effect hawake
      ((laneEndMark_idle hup hrx).trans ((laneLinkError_up hup).trans (if_neg (not_le.2 hbelow))))
  · exact exec_of_effect hawake ((laneSymbolError_up hup).trans (if_pos hat))
  · exact exec_of_effect hawake ((laneEndMark_idle hup hrx).trans ((laneLinkError_up hup).trans (if_pos hat)))
  · have hmem : (cls, ctr) ∈ laneDiscards := by
      simp only [laneDiscards, List.mem_cons, List.not_mem_nil, or_false] at hctr ⊢
      tauto
    have hstart := laneStartMark_discards hup hrx hclass hmem
    exact ⟨fun h => exec_of_effect hawake (hstart.trans (if_neg (not_le.2 h))),
      fun h => ⟨_, laneEmpty_emptied l _, exec_of_effect hawake (hstart.trans (if_pos h))⟩⟩

/-- Settles O30: the header, the length and CRC, and the status code decide the class; and then its counter. -/
theorem laneDiscardsFailingFrame : Obligations.LaneDiscardsFailingFrame := by
  unfold Obligations.LaneDiscardsFailingFrame
  refine ⟨fun l k a n ws m b hk ha hn h => laneClass_format hk ha hn h ws m b, fun l t xs ht hlow hhigh => ?_,
    fun l f cls ctr s hawake hup hrx hclass hctr => ?_⟩
  · intro body
    have hlength : body.length = xs.length + 1 := rfl
    have hof := laneClass_eq_lengthClass ht hlow hhigh
    refine ⟨fun ws m b hws => ?_, fun n m b hn => ?_, fun c m => ?_, ?_, fun c m hc => ?_,
      laneClass_whole ht hlow hhigh⟩
    · exact (hof (xs ++ [crc16 body] ++ ws) m b).trans (lengthClass_babble hlength _ hws m b)
    · cases n with
      | zero => rfl
      | succ n => exact (hof ((xs ++ [crc16 body]).take n) m b).trans (lengthClass_short hlength _ hn m b)
    · exact (hof (xs ++ [c]) m true).trans (lengthClass_byStart hlength _ c m)
    · exact (hof (xs ++ [crc16 body]) true false).trans (lengthClass_withCrc hlength _ true)
    · exact (hof (xs ++ [c]) m false).trans (lengthClass_damaged hlength _ hc m)
  · intro k counted
    have hend := (laneEndMark_collecting hup hrx).trans (laneFrameEnd_discards hclass hctr s)
    have htable : counted.laneTable = s.laneTable := incr_laneTable _ _
    have herror : laneLinkError l (setLane l k counted) =
        if s.laneTable[l].errorThreshold ≤ k.linkErrors + 1 then laneEnterDown l counted
        else setLane l { k with linkErrors := k.linkErrors + 1 } counted := by
      rw [laneLinkError_setLane (k := k) hup, htable]
    refine ⟨fun h => exec_of_effect hawake (hend.trans (if_neg h)), fun h hbelow => ?_, fun h hat => ?_⟩
    · exact exec_of_effect hawake (hend.trans ((if_pos h).trans (herror.trans (if_neg (not_le.2 hbelow)))))
    · exact ⟨_, laneEmpty_emptied l _,
        exec_of_effect hawake (hend.trans ((if_pos h).trans (herror.trans (if_pos hat))))⟩

end Machine
end Sys2Proof

namespace Sys2Proof
namespace Machine

/-! ### A valid ANSWER (R129, R130, R133, R134) -/

/-- R197: the code of each status. -/
def AnswerStatus.code : AnswerStatus → Word
  | .accept => 1
  | .defer => 2
  | .fault => 3

theorem AnswerStatus.ofCode_code (st : AnswerStatus) : AnswerStatus.ofCode st.code = some st := by
  cases st <;> rfl

/-- R129: the payload of an ANSWER, its report and its aggressor sample present or absent. -/
def answerPayload (q : Word) (st : AnswerStatus) (report : Option (Word × Word)) (sample : Option Word) : List Word :=
  [q, st.code] ++ (match report with
    | some (r, e) => [r, e]
    | none => []) ++ sample.toList

section
variable (q : Word) (st : AnswerStatus) (report : Option (Word × Word)) (sample : Option Word)

theorem answerPayload_length : 2 ≤ (answerPayload q st report sample).length ∧
    (answerPayload q st report sample).length ≤ 5 := by
  cases report <;> cases sample <;> simp [answerPayload]

/-- R197: the words of an ANSWER read back as its parts. -/
theorem readAnswer_withCrc (t : Fin 96) : readAnswer (withCrc
    (header 8 t.1 (answerPayload q st report sample).length :: answerPayload q st report sample)) =
      some ⟨t, q, st, report, sample⟩ := by
  obtain ⟨-, hhigh⟩ := answerPayload_length q st report sample
  have ht : t.1 < 128 := by omega
  have hslot : toFin 96 t.1 = some t := toFin_eq_some_iff.2 rfl
  have haddress : headerAddress (header 8 t.1 (answerPayload q st report sample).length) = t.1 :=
    headerAddress_header (by decide) ht (by omega)
  have hlength : headerLength (header 8 t.1 (answerPayload q st report sample).length) =
      (answerPayload q st report sample).length := headerLength_header (by decide) ht (by omega)
  cases report <;> cases sample <;>
    simp only [answerPayload, Option.toList, List.append_nil, List.cons_append, List.nil_append, List.length_cons,
      List.length_nil, Nat.zero_add, Nat.reduceAdd] at haddress hlength <;>
    simp [readAnswer, answerParts, answerPayload, withCrc, wordAt, haddress, hlength, hslot, AnswerStatus.ofCode_code]

/-- R128: the frame of an ANSWER is valid. -/
theorem laneClass_answer {l : Fin 4} {t : Fin 96} (ht : slotLane t = l) : laneClass l ⟨withCrc
    (header 8 t.1 (answerPayload q st report sample).length :: answerPayload q st report sample), false⟩ false =
      .valid := by
  obtain ⟨hlow, hhigh⟩ := answerPayload_length q st report sample
  refine (laneClass_whole ht hlow hhigh).trans (if_pos ?_)
  cases st <;> simp [answerPayload, AnswerStatus.code]

/-- R128, R129: a valid ANSWER's end sets the link errors to 0, and the answer is matched. -/
theorem laneFrameEnd_answer {l : Fin 4} {t : Fin 96} (ht : slotLane t = l) (s : State) : laneFrameEnd l ⟨withCrc
    (header 8 t.1 (answerPayload q st report sample).length :: answerPayload q st report sample), false⟩ false s =
      answerMatch l ⟨t, q, st, report, sample⟩ (setLane l { s.lanes[l] with rx := none, linkErrors := 0 } s) := by
  unfold laneFrameEnd
  rw [laneClass_answer q st report sample ht]
  simp only [readAnswer_withCrc, setLane_get, setLane_setLane]

end

theorem answerMatch_matched {l : Fin 4} {a : Answer} {r : OutRecord} {s : State}
    (hrecord : s.outstanding[a.slot] = some r) (hseq : r.seq = a.echo) : answerMatch l a s =
      laneChoose l (distribute a r.kind (incr (.lane l .matched) (setOutstanding a.slot none s))) := by
  simp only [answerMatch, hrecord, if_pos hseq]

theorem answerMatch_unmatched {l : Fin 4} {a : Answer} {s : State}
    (h : ∀ r, s.outstanding[a.slot] = some r → r.seq ≠ a.echo) : answerMatch l a s = incr (.lane l .unmatched) s := by
  unfold answerMatch
  cases hrecord : s.outstanding[a.slot] with
  | none => rfl
  | some r => exact if_neg (h r hrecord)

theorem deliverAggressor_latches_get (t : Fin 96) (v : Word) (s : State) (n : Fin 48) :
    (deliverAggressor t v s).latches[n] =
      if s.sourceTable[n].kind = .aggressor ∧ s.sourceTable[n].slot = t then latchTake s.sourceTable[n] v
      else s.latches[n] := by
  refine (mapEntries_getElem _ s.latches n.1 n.2).trans ?_
  rw [toList_getElem?_fin]
  rfl

theorem ChannelStep.reports {t : Fin 96} {k : SentKind} {s u : State} (h : ChannelStep t k s u) :
    u.reports = s.reports := by
  cases h with
  | none hcounts => rw [hcounts]
  | stays _ _ _ _ hcounts | flushed _ _ _ hcounts | halted _ _ hcounts => rw [hcounts]; rfl

/-- R134: a matched answer's parts, the reports as they stood before the status. -/
theorem distribute_eq {a : Answer} {k : SentKind} {s told : State} (htold : channelStatus a.slot k a.status s = told)
    (q : List Report) (hq : s.reports = q) : distribute a k s =
      let joined : State := match a.report with
        | some (r, e) =>
            if q.length < 16 then { told with reports := q ++ [⟨a.slot, r, e⟩] }
            else raise .adaptDrop 0 (incr (.global .reportDrops) told)
        | none => told
      match a.aggressor with
      | some v => deliverAggressor a.slot v joined
      | none => joined := by
  subst htold
  have hreports := (channelStatus_step a.slot k a.status s).reports.trans hq
  subst hreports
  unfold distribute
  cases a.report <;> cases a.aggressor <;> rfl

/-- Settles O29: the answer's words read back; then the slot's record, and the answer's parts. -/
theorem validAnswerMatchesOrIsDiscarded : Obligations.ValidAnswerMatchesOrIsDiscarded := by
  unfold Obligations.ValidAnswerMatchesOrIsDiscarded
  refine ⟨fun l t q report sample st s hawake hup ht => ?_, fun t a s => ⟨rfl, fun n => ?_⟩⟩
  · intro code payload hrx checked
    have hpayload : payload = answerPayload q st report sample := by
      cases st <;> rfl
    rw [hpayload] at hrx
    have hend := (laneEndMark_collecting hup hrx).trans (laneFrameEnd_answer q st report sample ht s)
    refine ⟨fun r hrecord hseq => ?_, fun h => ?_⟩
    · intro told joined
      refine exec_of_effect hawake (hend.trans ((answerMatch_matched (a := ⟨t, q, st, report, sample⟩)
        (s := checked) hrecord hseq).trans ?_))
      exact congrArg (laneChoose l) (distribute_eq (told := told) rfl s.reports (incr_reports _ _))
    · exact exec_of_effect hawake (hend.trans (answerMatch_unmatched
        (a := ⟨t, q, st, report, sample⟩) (s := checked) h))
  · rw [deliverAggressor_latches_get, latchTake_eq]

end Machine
end Sys2Proof

namespace Sys2Proof
namespace Machine

/-! ### The row of a frame (R165, R173, R196) -/

theorem table_eq_div (f : MgmtFrame) : f.table = (f.word 1).toNat / 4096 := by
  have h := (f.word 1).isLt
  simp only [MgmtFrame.table, bits]
  omega

theorem flag_eq_getLsbD (w : Word) (i : Nat) : flag w i = w.getLsbD i := by
  have hwidth : i + 1 - i = 1 := by omega
  rw [flag, bits, hwidth, pow_one, BitVec.getLsbD, Nat.testBit_eq_decide_div_mod_eq, beq_eq_decide]

theorem rowOf_mwrite {f : MgmtFrame} (hkind : f.kind = 2) : rowOf f = some (
    if f.payload.length < 3 then .mwrite else if f.table = 1 then .mwritePort else if f.table = 2 then .mwriteSource
    else if f.table = 3 then .mwriteSlot else if f.table = 4 then .mwritePath else if f.table = 5 then .mwriteTaps
    else .mwrite) := by
  unfold rowOf
  rw [hkind]
  by_cases hlength : f.payload.length < 3
  · simp only [if_pos hlength]
  · simp only [if_neg hlength]
    split
    case h_6 h1 h2 h3 h4 h5 => rw [if_neg h1, if_neg h2, if_neg h3, if_neg h4, if_neg h5]
    all_goals next h => simp [h]

theorem rowOf_mread {f : MgmtFrame} (hkind : f.kind = 3) : rowOf f = some (
    if f.payload.length = 3 ∧ f.table = 5 then .mreadTaps
    else if f.payload.length = 3 ∧ f.table = 6 ∧ f.flag11 = true then .mreadCountersClear else .mread) := by
  unfold rowOf
  rw [hkind]
  by_cases hlength : f.payload.length = 3
  · simp only [hlength, true_and, ne_eq, not_true, if_false, apply_ite some]
  · simp only [hlength, false_and, ne_eq, not_false_iff, if_true, if_false]

theorem rowOf_mact {f : MgmtFrame} (hkind : f.kind = 4) : rowOf f =
    if f.payload.length < 2 ∨ 4 < f.payload.length then none else actionRow (f.word 1).toNat := by
  simp only [rowOf, hkind]

theorem actionRow_eq_none {n : Nat} (h : n = 0 ∨ 11 < n) : actionRow n = none := by
  rcases h with rfl | h
  · rfl
  · obtain ⟨m, rfl⟩ : ∃ m, n = m + 12 := ⟨n - 12, by omega⟩
    rfl

section
variable {f : MgmtFrame} {rest : List MgmtFrame} {s : State} (hidle : s.mgmt = .idle) (hqueue : s.mgmtQueue = f :: rest)
include hidle hqueue

theorem mgmtFrameTake_some {row : MgmtRow} (hrow : rowOf f = some row) :
    mgmtFrameTake s = setPhase f .taken { s with mgmtQueue := rest } := by
  simp only [mgmtFrameTake, hidle, hqueue, hrow]

theorem mgmtFrameTake_none (hrow : rowOf f = none) :
    mgmtFrameTake s = replied f (statusReply f .format) { s with mgmtQueue := rest } := by
  simp only [mgmtFrameTake, hidle, hqueue, hrow, answer_eq_replied]

end

/-! ### Missing and out-of-range arguments (R173, R196) -/

theorem withArg_refuses (n : Nat) (act : Fin n → MgmtFrame → State → State) (f : MgmtFrame) (s : State) :
    (f.payload[2]? = none → withArg n act f s = replied f (statusReply f .format) s) ∧
    (∀ a, f.payload[2]? = some a → n ≤ a.toNat → withArg n act f s = replied f (statusReply f .range) s) := by
  refine ⟨fun h => ?_, fun a h ha => withArg_outOfRange (by rw [MgmtFrame.arg1, h]; rfl) ha act s⟩
  have hnone : f.arg1 = none := by rw [MgmtFrame.arg1, h]; rfl
  rw [withArg, hnone]
  rfl

theorem actDump_missing {f : MgmtFrame} (h : f.payload[2]? = none ∨ f.payload[3]? = none) (s : State) :
    actDump f s = replied f (statusReply f .format) s := by
  have hnone : f.arg1 = none ∨ f.arg2 = none := h.imp (by simp [MgmtFrame.arg1]) (by simp [MgmtFrame.arg2])
  unfold actDump
  rcases hnone with hnone | hnone <;> rw [hnone]
  · rfl
  · cases f.arg1 <;> rfl

theorem actDump_outOfRange {f : MgmtFrame} {a b : Word} (hfirst : f.payload[2]? = some a)
    (hlast : f.payload[3]? = some b) (h : 512 ≤ a.toNat ∨ 512 ≤ b.toNat) (s : State) :
    actDump f s = replied f (statusReply f .range) s := by
  have harg1 : f.arg1 = some a.toNat := by rw [MgmtFrame.arg1, hfirst]; rfl
  have harg2 : f.arg2 = some b.toNat := by rw [MgmtFrame.arg2, hlast]; rfl
  simp only [actDump, harg1, harg2]
  rcases h with h | h <;> simp only [toFin, dif_neg h.not_gt]
  · rfl
  · cases (if h : a.toNat < 512 then some (⟨a.toNat, h⟩ : Fin 512) else none) <;> rfl

theorem exec_laneReset_eq (s : State) : exec .laneReset s = onFrame .laneReset (withArg 4 actLaneReset) s := rfl
theorem exec_portReset_eq (s : State) : exec .portReset s = onFrame .portReset (withArg 8 actPortReset) s := rfl
theorem exec_dump_eq (s : State) : exec .dump s = onFrame .dump actDump s := rfl

/-- Settles O35: the row of each frame, the take, and each action's missing or out-of-range argument. -/
theorem managementTakesByCode : Obligations.ManagementTakesByCode := by
  unfold Obligations.ManagementTakesByCode
  refine ⟨fun f rest s hawake hidle hqueue => ⟨fun hrow => exec_of_effect hawake ?_, fun hkind hbad =>
    exec_of_effect hawake ?_⟩, fun f => ⟨fun hkind => ?_, fun hkind => ?_, fun hkind hlow hhigh n row hmem hcode => ?_⟩,
    fun c row n f s hmem hexec => ?_, fun f s => ⟨fun hexec h => ?_, fun hexec => ⟨fun h => ?_, fun a b ha hb h => ?_⟩⟩⟩
  · obtain ⟨row, hsome⟩ := Option.isSome_iff_exists.1 hrow
    exact mgmtFrameTake_some hidle hqueue hsome
  · refine mgmtFrameTake_none hidle hqueue ?_
    rw [rowOf_mact hkind]
    split
    · rfl
    · exact actionRow_eq_none (by omega)
  · rw [rowOf_mwrite hkind, table_eq_div]
  · rw [rowOf_mread hkind, table_eq_div, MgmtFrame.flag11, flag_eq_getLsbD]
  · rw [rowOf_mact hkind, if_neg (by omega), hcode]
    simp only [List.mem_cons, Prod.mk.injEq, List.not_mem_nil, or_false] at hmem
    rcases hmem with ⟨rfl, rfl⟩ | ⟨rfl, rfl⟩ | ⟨rfl, rfl⟩ | ⟨rfl, rfl⟩ | ⟨rfl, rfl⟩ | ⟨rfl, rfl⟩ | ⟨rfl, rfl⟩ |
      ⟨rfl, rfl⟩ | ⟨rfl, rfl⟩ | ⟨rfl, rfl⟩ | ⟨rfl, rfl⟩ <;> rfl
  · have hrefused {m : Nat} (act : Fin m → MgmtFrame → State → State) (h : exec c s = onFrame row (withArg m act) s) :
        (f.payload[2]? = none → exec c s = .next (returnChoose (replied f (statusReply f .format) s))) ∧
        (∀ a, f.payload[2]? = some a → m ≤ a.toNat →
          exec c s = .next (returnChoose (replied f (statusReply f .range) s))) := by
      obtain ⟨hmissing, hrange⟩ := withArg_refuses m act f s
      rw [h, onFrame_executing hexec]
      exact ⟨fun h => by rw [hmissing h], fun a h ha => by rw [hrange a h ha]⟩
    simp only [List.mem_cons, Prod.mk.injEq, List.not_mem_nil, or_false] at hmem
    rcases hmem with ⟨rfl, rfl, rfl⟩ | ⟨rfl, rfl, rfl⟩ | ⟨rfl, rfl, rfl⟩ | ⟨rfl, rfl, rfl⟩ | ⟨rfl, rfl, rfl⟩ |
      ⟨rfl, rfl, rfl⟩
    · exact hrefused _ (exec_startSlot_eq s)
    · exact hrefused _ (exec_haltSlot_eq s)
    · exact hrefused _ (exec_releaseSlot_eq s)
    · exact hrefused _ (exec_gainRestart_eq s)
    · exact hrefused _ (exec_laneReset_eq s)
    · exact hrefused _ (exec_portReset_eq s)
  · have hnone : f.arg1 = none := by rw [MgmtFrame.arg1, h]; rfl
    rw [exec_run_eq, onFrame_executing hexec, actRun, hnone]
    rfl
  · rw [exec_dump_eq, onFrame_executing hexec, actDump_missing h]
  · rw [exec_dump_eq, onFrame_executing hexec, actDump_outOfRange ha hb h]

/-! ### The completion of an execution (R165, R174, R176, R182) -/

theorem completion_ready {f : MgmtFrame} {r : Reply} {s : State} (h : ReplyReady f r s) : completion s = some r := by
  have hready := (readyReply_iff s r).2 ⟨f, h⟩
  rcases h with h | ⟨h, -⟩ | ⟨a, b, h, -⟩ <;> simp only [completion, h] at hready ⊢ <;> exact hready

theorem completion_restarting {f : MgmtFrame} {s : State} (h : s.mgmt = .executing f .restarting) :
    completion s = if restartSettled s then some (statusReply f .done) else none := by
  unfold completion
  rw [h]
  rfl

theorem executionComplete_none {s : State} (h : completion s = none) : executionComplete s = s := by
  unfold executionComplete
  rw [h]

theorem executionComplete_some {r : Reply} {s : State} (h : completion s = some r) : executionComplete s =
    if s.ret.replyPlace.isNone then placeReply r s else { s with mgmt := .holding r } := by
  unfold executionComplete
  rw [h]

/-- Settles O36: the complete executions, with the reply place empty or full, and those that are not complete. -/
theorem executionCompletes : Obligations.ExecutionCompletes := by
  unfold Obligations.ExecutionCompletes
  refine fun s hawake => ⟨fun f r h => ?_, fun h => exec_of_effect hawake (executionComplete_none ?_)⟩
  · have hsome : completion s = some r := by
      rcases h with h | ⟨hmgmt, hsettled, rfl⟩
      · exact completion_ready h
      · rw [completion_restarting hmgmt, if_pos ((restartSettled_iff s).2 hsettled)]
    have hcomplete := executionComplete_some hsome
    intro placed
    refine ⟨fun hempty => exec_of_effect hawake (hcomplete.trans ?_),
      fun hfull => exec_of_effect hawake (hcomplete.trans ?_)⟩
    · rw [hempty, Option.isNone_none, if_pos rfl, placeReply_eq, ← bankOf_eq]
      rfl
    · rw [if_neg (by rw [Option.isNone_iff_eq_none, ← Option.not_isSome_iff_eq_none, hfull]; exact not_not_intro rfl)]
  · rcases h with h | ⟨r, h⟩ | ⟨f, h | ⟨ws, h⟩ | ⟨n, h⟩ | ⟨x, h | h⟩ | ⟨h, hnot⟩⟩
    · simp only [completion, h, readyReply]
    · simp only [completion, h, readyReply]
    · simp only [completion, h, readyReply]
    · simp only [completion, h, readyReply]
    · simp only [completion, h, readyReply]
    · simp only [completion, h, readyReply]
    · cases x <;> simp only [completion, h, readyReply]
    · rw [completion_restarting h, if_neg (mt (restartSettled_iff s).1 hnot)]

end Machine
end Sys2Proof

namespace Sys2Proof
namespace Machine

/-! ### What a refused MWRITE or MREAD leaves (R165, R168, R170) -/

theorem returnTake_executing {f : MgmtFrame} {p : Phase} {s : State} (h : s.mgmt = .executing f p) :
    (returnTake s).mgmt = s.mgmt := by
  unfold returnTake
  split
  · rfl
  · simp only [h]
  · rfl
  · dsimp only
    split
    · exact placeDumpFrame_mgmt _ _
    · rfl
  · rfl

theorem settleRestart_of_mgmt {u : State} (h : ∀ f, u.mgmt ≠ .executing f .restarting) : settleRestart u = u :=
  settleRestart_eq fun f hf => absurd hf (h f)

theorem returnTake_placed {r : Reply} {s : State} (hline : s.ret.line = none) (hreply : s.ret.replyPlace = some r)
    (hidle : s.mgmt = .idle) : (returnTake s).mgmt = .idle ∧ (returnTake s).ret.line = some (.reply r) := by
  unfold returnTake
  simp only [hline, hreply, hidle, and_self]

/-- The arbiter's choice leaves a frame in execution, or its ready reply is on the line. -/
theorem returnChoose_executing {f : MgmtFrame} {p : Phase} {u : State} (h : u.mgmt = .executing f p)
    (hp : p ≠ .restarting) : (returnChoose u).mgmt = u.mgmt ∨ ∃ r, readyReply u.mgmt = some r ∧
      (returnChoose u).mgmt = .idle ∧ (returnChoose u).ret.line = some (.reply r) := by
  have hsettled {v : State} (hv : v.mgmt = u.mgmt) : (settleRestart v).mgmt = u.mgmt := by
    rw [settleRestart_of_mgmt fun g hg => hp ?_, hv]
    rw [hv, h] at hg
    exact (Mgmt.executing.inj hg).2
  unfold returnChoose
  split
  · exact .inl (hsettled rfl)
  · next hline =>
    unfold placeReady
    split
    · next r hready =>
      split
      · right
        obtain ⟨hidle, hon⟩ := returnTake_placed (r := r) (s := placeReply r u)
          (by rw [placeReply_ret]; simpa using hline) (by rw [placeReply_ret]) (placeReply_mgmt r u)
        rw [settleRestart_of_mgmt fun g hg => by rw [hidle] at hg; cases hg]
        exact ⟨r, hready, hidle, hon⟩
      · exact .inl (hsettled (returnTake_executing h))
    · exact .inl (hsettled (returnTake_executing h))

/-- R168, R170: u is where the row has refused frame f in state s, or where f is accepted: any reply that is ready then
is DONE. -/
def RefusedOrDone (f : MgmtFrame) (s u : State) : Prop := Refused f s u ∨
  ∃ p, p ≠ .restarting ∧ u.mgmt = .executing f p ∧ ∀ r, readyReply u.mgmt = some r → r.status = .done

theorem answer_done (f : MgmtFrame) (s u : State) : RefusedOrDone f s (answer f .done u) :=
  .inr ⟨_, (fun h => by cases h), rfl, fun _ hr => by cases hr; rfl⟩

theorem dataReply_done (f : MgmtFrame) (ws : List Word) (s u : State) :
    RefusedOrDone f s (replied f (dataReply f ws) u) :=
  .inr ⟨_, (fun h => by cases h), rfl, fun _ hr => by cases hr; rfl⟩

theorem collecting_done (f : MgmtFrame) (ws : List Word) (s u : State) :
    RefusedOrDone f s (setPhase f (.collecting ws) u) :=
  .inr ⟨_, (fun h => by cases h), rfl, fun _ hr => by cases hr⟩

/-- A reply that is not DONE, of a frame that the row has just executed, is the row's refusal. -/
theorem RefusedOrDone.refused {f : MgmtFrame} {r : Reply} {s u : State} (h : RefusedOrDone f s u)
    (hreply : (returnChoose u).mgmt = .executing f (.finished r) ∨
      ((returnChoose u).mgmt = .idle ∧ (returnChoose u).ret.line = some (.reply r)))
    (hstatus : r.status ≠ .done) : u = replied f r s := by
  have hready {p : Phase} (hp : p ≠ .restarting) (hmgmt : u.mgmt = .executing f p) : readyReply u.mgmt = some r := by
    rcases returnChoose_executing hmgmt hp with hsame | ⟨q, hq, hidle, hline⟩
    · rw [hsame, hmgmt] at hreply
      rcases hreply with hfinished | ⟨hidle, -⟩
      · rw [hmgmt, hfinished]
        rfl
      · cases hidle
    · rw [hidle, hline] at hreply
      rcases hreply with hfinished | ⟨-, hon⟩
      · cases hfinished
      · cases hon
        exact hq
  rcases h with ⟨q, -, rfl⟩ | ⟨p, hp, hmgmt, hdone⟩
  · cases hready (p := .finished q) (fun h => by cases h) rfl
    rfl
  · exact absurd (hdone r (hready hp hmgmt)) hstatus

theorem writing_done (f : MgmtFrame) (n : Nat) {s u : State} (hmgmt : u.mgmt = .executing f (.writing n)) :
    RefusedOrDone f s u := by
  refine .inr ⟨_, (fun h => by cases h), hmgmt, fun r hr => ?_⟩
  rw [hmgmt] at hr
  cases n with
  | zero => cases hr; rfl
  | succ n => cases hr

theorem reading_done (f : MgmtFrame) (x y : Option (List StoredWord)) {s u : State}
    (hmgmt : u.mgmt = .executing f (.reading x y)) : RefusedOrDone f s u := by
  refine .inr ⟨_, (fun h => by cases h), hmgmt, fun r hr => ?_⟩
  rw [hmgmt] at hr
  cases x <;> cases y <;> cases hr
  rfl

theorem requestReads_mgmt (f : MgmtFrame) (s : State) :
    ∃ x y, (requestReads f s).mgmt = .executing f (.reading x y) := by
  unfold requestReads
  dsimp only
  split
  · exact ⟨none, some [], by rw [request_only]; rfl⟩
  · exact ⟨none, none, by rw [request_only, request_only]; rfl⟩

theorem readNext_done (f : MgmtFrame) (ws : List Word) (s : State) : RefusedOrDone f s (readNext f ws s) := by
  rcases readNext_cases f ws s with ⟨all, h⟩ | ⟨all, h⟩ <;> rw [h]
  · exact collecting_done f all s s
  · exact dataReply_done f all s s

theorem clearNext_done (f : MgmtFrame) (ws : List Word) (s : State) : RefusedOrDone f s (clearNext f ws s) := by
  have hmgmt : (clearNext f ws s).mgmt = (readNext f ws s).mgmt := by
    unfold clearNext clearCounter
    cases counterAt (f.offset + ws.length) <;> rfl
  unfold RefusedOrDone
  rw [hmgmt]
  rcases readNext_cases f ws s with ⟨all, h⟩ | ⟨all, h⟩ <;> rw [h]
  · exact .inr ⟨_, (fun h => by cases h), rfl, fun _ hr => by cases hr⟩
  · exact .inr ⟨_, (fun h => by cases h), rfl, fun _ hr => by cases hr; rfl⟩

theorem onRead_taken {row : MgmtRow} {f : MgmtFrame} {s : State} (h : Executing row f s)
    (first : MgmtFrame → State → State) (next : MgmtFrame → List Word → State → State) :
    onRead row first next s = .next (returnChoose (first f s)) := by
  obtain ⟨hawake, htaken, hrow⟩ := h
  rw [onRead, live_awake hawake, htaken]
  exact congrArg (fun u => Host.Outcome.next (returnChoose u)) (if_pos hrow)

/-- The rows of MWRITE and MREAD, and what each makes of a frame it has taken. -/
inductive AccessRow : Instr → MgmtRow → (MgmtFrame → State → State) → Prop
  | port : AccessRow .mwritePort .mwritePort writePort
  | source : AccessRow .mwriteSource .mwriteSource writeSource
  | slot : AccessRow .mwriteSlot .mwriteSlot writeSlot
  | path : AccessRow .mwritePath .mwritePath writePath
  | taps : AccessRow .mwriteTaps .mwriteTaps writeTaps
  | other : AccessRow .mwrite .mwrite writeOther
  | read : AccessRow .mread .mread readTable
  | readTaps : AccessRow .mreadTaps .mreadTaps readTaps
  | readClear : AccessRow .mreadCountersClear .mreadCountersClear readClear

theorem AccessRow.exec {c : Instr} {row : MgmtRow} {act : MgmtFrame → State → State} (h : AccessRow c row act)
    {f : MgmtFrame} {s : State} (hexec : Executing row f s) : exec c s = .next (returnChoose (act f s)) := by
  cases h with
  | port | source | slot | path | taps | other | readTaps => exact onFrame_executing hexec _
  | read | readClear => exact onRead_taken hexec _ _

theorem AccessRow.done {c : Instr} {row : MgmtRow} {act : MgmtFrame → State → State} (h : AccessRow c row act)
    (f : MgmtFrame) (s : State) : RefusedOrDone f s (act f s) := by
  cases h with
  | port =>
    rcases writePort_cases f s with h | ⟨-, -, h⟩
    · exact .inl h
    · exact h ▸ answer_done f s _
  | source =>
    rcases writeSource_cases f s with h | ⟨-, -, -, h⟩
    · exact .inl h
    · exact h ▸ answer_done f s _
  | slot =>
    rcases writeSlot_cases f s with h | ⟨-, -, -, h⟩
    · exact .inl h
    · exact h ▸ answer_done f s _
  | path =>
    rcases writePath_cases f s with h | ⟨-, -, -, -, h⟩
    · exact .inl h
    · exact h ▸ answer_done f s _
  | taps =>
    rcases writeTaps_cases f s with h | ⟨-, h⟩
    · exact .inl h
    · exact h ▸ writing_done f _ (requestWrites_mgmt f _ _)
  | other =>
    rcases writeOther_cases f s with h | h
    · exact .inl h
    · exact h ▸ answer_done f s _
  | read =>
    rcases readTable_cases f s with h | h | ⟨all, h⟩
    · exact .inl h
    · exact h ▸ readNext_done f [] s
    · exact h ▸ dataReply_done f all s s
  | readTaps =>
    rcases readTaps_cases f s with h | h
    · exact .inl h
    · obtain ⟨x, y, hmgmt⟩ := requestReads_mgmt f s
      exact h ▸ reading_done f x y hmgmt
  | readClear =>
    rcases readClear_cases f s with h | h
    · exact .inl h
    · exact h ▸ clearNext_done f [] s

/-! ### The checks shared by every table (R167, R168, R170, R196) -/

theorem writeFormatOk_iff_length (f : MgmtFrame) :
    f.writeFormatOk = true ↔ 4 ≤ f.payload.length ∧ f.payload.length ≤ 31 := by
  rw [writeFormatOk_iff, MgmtFrame.data, List.length_drop]
  omega

/-- R167, R168: what the write w of a table of the given size does before its own checks. -/
structure ChecksWrite (size : Nat) (w : MgmtFrame → State → State) (f : MgmtFrame) : Prop where
  format : ∀ s, f.writeFormatOk = false → w f s = replied f (statusReply f .format) s
  beyond : ∀ s, f.writeFormatOk = true → size ≤ f.lastOffset →
    w f s = replied f { statusReply f .range with offset := some (max f.offset size) } s

theorem writeTable_checks (size : Nat) (rest : MgmtFrame → State → State) (f : MgmtFrame) :
    ChecksWrite size (writeTable size rest) f where
  format s h := by
    rw [writeTable, h]
    rfl
  beyond s h hlast := by
    have hsome : Machine.beyond f.offset f.lastOffset size = some (max f.offset size) := if_pos hlast
    rw [writeTable, h, hsome]
    rfl

theorem writeOther_checks {f : MgmtFrame} (htable : f.table = 8) : ChecksWrite 13 writeOther f where
  format s h := by
    rw [writeOther, h]
    rfl
  beyond s h hlast := by
    refine Eq.trans ?_ ((writeTable_checks 13 (fun f s => answer f .done (applyMask f s)) f).beyond s h hlast)
    rw [writeOther, h, htable]
    rfl

theorem writeOther_format {f : MgmtFrame} {s : State} (h : f.writeFormatOk = false ∨ f.table = 0 ∨ 9 ≤ f.table) :
    writeOther f s = replied f (statusReply f .format) s := by
  unfold writeOther
  cases hformat : f.writeFormatOk with
  | false => rfl
  | true =>
    have htable : f.table = 0 ∨ 9 ≤ f.table := h.resolve_left (by simp [hformat])
    split
    · rfl
    · split
      case h_4 => rfl
      all_goals omega

/-- R199: the offsets of each table that an MREAD can read. -/
theorem readTable_beyond {f : MgmtFrame} {n width : Nat} (hformat : readFormatOk f false = true)
    (hsize : tableSize f.table = some (n, width)) (hlast : n * width ≤ lastRead f) (s : State) :
    readTable f s = replied f { statusReply f .range with offset := some (max f.offset (n * width)) } s := by
  have hsome : beyond f.offset (lastRead f) (n * width) = some (max f.offset (n * width)) := if_pos hlast
  simp only [readTable, hformat, hsize, hsome]
  rfl

theorem readTable_format {f : MgmtFrame} (h : readFormatOk f false = false ∨ tableSize f.table = none) (s : State) :
    readTable f s = replied f (statusReply f .format) s := by
  unfold readTable
  rcases h with h | h <;> rw [h]
  · rfl
  · cases readFormatOk f false <;> rfl

theorem tableSize_eq_none {n : Nat} (h : n = 0 ∨ 9 ≤ n) : tableSize n = none := by
  rcases h with rfl | h
  · rfl
  · obtain ⟨m, rfl⟩ : ∃ m, n = m + 9 := ⟨n - 9, by omega⟩
    rfl

theorem readTaps_beyond {f : MgmtFrame} (hformat : readFormatOk f false = true) (hlast : 16384 ≤ lastRead f)
    (s : State) : readTaps f s = replied f { statusReply f .range with offset := some (max f.offset 16384) } s := by
  have hsome : beyond f.offset (lastRead f) 16384 = some (max f.offset 16384) := if_pos hlast
  rw [readTaps, if_pos hformat, hsome]
  rfl

theorem readClear_beyond {f : MgmtFrame} (hformat : readFormatOk f true = true) (hlast : 1308 ≤ lastRead f)
    (s : State) : readClear f s = replied f { statusReply f .range with offset := some (max f.offset 1308) } s := by
  have hsome : beyond f.offset (lastRead f) 1308 = some (max f.offset 1308) := if_pos hlast
  rw [readClear, if_pos hformat, hsome]
  rfl

/-- Only an MREAD has a row that reads. -/
theorem kind_of_readRow {f : MgmtFrame} {row : MgmtRow} (h : rowOf f = some row)
    (hread : row = .mread ∨ row = .mreadTaps ∨ row = .mreadCountersClear) : f.kind = 3 := by
  unfold rowOf at h
  split at h
  case h_2 hkind => exact hkind
  case h_1 =>
    split at h
    · cases h
      simp at hread
    · split at h <;> cases h <;> simp at hread
  case h_3 =>
    split at h
    · cases h
    · unfold actionRow at h
      split at h <;> cases h <;> simp at hread
  case h_4 => cases h

/-- What the row of an MREAD says of its frame. -/
theorem readRow_iff {f : MgmtFrame} {row : MgmtRow} (h : rowOf f = some row)
    (hread : row = .mread ∨ row = .mreadTaps ∨ row = .mreadCountersClear) :
    (row = .mreadTaps ↔ f.payload.length = 3 ∧ f.table = 5) ∧
    (row = .mreadCountersClear ↔ f.payload.length = 3 ∧ f.table = 6 ∧ f.flag11 = true) := by
  rw [rowOf_mread (kind_of_readRow h hread), Option.some.injEq] at h
  subst h
  by_cases htaps : f.payload.length = 3 ∧ f.table = 5
  · rw [if_pos htaps]
    exact ⟨iff_of_true rfl htaps, iff_of_false (fun h => by cases h) fun h => by omega⟩
  · rw [if_neg htaps]
    by_cases hclear : f.payload.length = 3 ∧ f.table = 6 ∧ f.flag11 = true
    · rw [if_pos hclear]
      exact ⟨iff_of_false (fun h => by cases h) htaps, iff_of_true rfl hclear⟩
    · rw [if_neg hclear]
      exact ⟨iff_of_false (fun h => by cases h) htaps, iff_of_false (fun h => by cases h) hclear⟩

/-- R168: the last offset that an MWRITE of k data words addresses. -/
theorem lastOffset_eq (f : MgmtFrame) (h : 4 ≤ f.payload.length) :
    f.lastOffset = if f.flag11 then f.offset + (f.payload.length - 4) else f.offset := by
  rw [MgmtFrame.lastOffset, MgmtFrame.data, List.length_drop]
  split <;> omega

/-- R170, R196: what an MREAD refused with FORMAT lacks, in the frame's own terms. -/
theorem readFormatOk_eq_false {f : MgmtFrame} {clear : Bool}
    (h : f.payload.length ≠ 3 ∨ f.count = 0 ∨ 28 < f.count ∨ (clear = false ∧ f.flag11 = true)) :
    readFormatOk f clear = false := by
  rw [Bool.eq_false_iff, Ne, readFormatOk_iff]
  rintro ⟨hlength, hlow, hhigh, hflag⟩
  rcases h with h | h | h | ⟨hclear, hset⟩
  · exact h hlength
  · omega
  · omega
  · rw [hclear, hset] at hflag
    simp at hflag

/-- R170, R196: an MREAD whose fixed words, count, table code or clear flag is refused. -/
def BadRead (f : MgmtFrame) : Prop :=
  f.payload.length ≠ 3 ∨ f.count = 0 ∨ 28 < f.count ∨ f.table = 0 ∨ 9 ≤ f.table ∨ (f.flag11 = true ∧ f.table ≠ 6)

section
variable {f : MgmtFrame} {s : State}

theorem exec_mread_format (hexec : Executing .mread f s) (hbad : BadRead f) :
    exec .mread s = .next (returnChoose (replied f (statusReply f .format) s)) := by
  rw [AccessRow.read.exec hexec, readTable_format ?_]
  by_cases htable : f.table = 0 ∨ 9 ≤ f.table
  · exact .inr (tableSize_eq_none htable)
  · unfold BadRead at hbad
    exact .inl (readFormatOk_eq_false (by tauto))

theorem exec_mread_beyond (hexec : Executing .mread f s) {n width : Nat} (hsize : tableSize f.table = some (n, width))
    (hlength : f.payload.length = 3) (hlow : 1 ≤ f.count) (hhigh : f.count ≤ 28)
    (hflag : f.flag11 = false ∨ f.table = 6) (hlast : n * width < f.offset + f.count) : exec .mread s =
      .next (returnChoose (replied f { statusReply f .range with offset := some (max f.offset (n * width)) } s)) := by
  have hclear : f.flag11 = false := by
    obtain ⟨-, hclear⟩ := readRow_iff hexec.row (.inl rfl)
    rcases hflag with hflag | htable
    · exact hflag
    · exact Bool.eq_false_iff.2 fun hset => MgmtRow.noConfusion (hclear.2 ⟨hlength, htable, hset⟩)
  rw [AccessRow.read.exec hexec, readTable_beyond
    ((readFormatOk_iff f false).2 ⟨hlength, hlow, hhigh, .inr hclear⟩) hsize (by unfold lastRead; omega)]

theorem exec_mreadTaps_format (hexec : Executing .mreadTaps f s) (hbad : BadRead f) :
    exec .mreadTaps s = .next (returnChoose (replied f (statusReply f .format) s)) := by
  obtain ⟨hlength, htable⟩ := (readRow_iff hexec.row (.inr (.inl rfl))).1.1 rfl
  have hformat : readFormatOk f false = false := by
    refine readFormatOk_eq_false ?_
    rcases hbad with h | h | h | h | h | ⟨h, -⟩
    exacts [.inl h, .inr (.inl h), .inr (.inr (.inl h)), absurd h (by omega), absurd h (by omega),
      .inr (.inr (.inr ⟨rfl, h⟩))]
  rw [AccessRow.readTaps.exec hexec, readTaps, if_neg (Bool.eq_false_iff.1 hformat), answer_eq_replied]

theorem exec_mreadTaps_beyond (hexec : Executing .mreadTaps f s) (hlength : f.payload.length = 3) (hlow : 1 ≤ f.count)
    (hhigh : f.count ≤ 28) (hflag : f.flag11 = false) (hlast : 16384 < f.offset + f.count) : exec .mreadTaps s =
      .next (returnChoose (replied f { statusReply f .range with offset := some (max f.offset 16384) } s)) := by
  rw [AccessRow.readTaps.exec hexec, readTaps_beyond ((readFormatOk_iff f false).2 ⟨hlength, hlow, hhigh, .inr hflag⟩)
    (by unfold lastRead; omega)]

theorem exec_mreadCountersClear_format (hexec : Executing .mreadCountersClear f s) (hbad : BadRead f) :
    exec .mreadCountersClear s = .next (returnChoose (replied f (statusReply f .format) s)) := by
  obtain ⟨hlength, htable, -⟩ := (readRow_iff hexec.row (.inr (.inr rfl))).2.1 rfl
  have hformat : readFormatOk f true = false := readFormatOk_eq_false (by unfold BadRead at hbad; omega)
  rw [AccessRow.readClear.exec hexec, readClear, if_neg (Bool.eq_false_iff.1 hformat), answer_eq_replied]

theorem exec_mreadCountersClear_beyond (hexec : Executing .mreadCountersClear f s) (hlength : f.payload.length = 3)
    (hlow : 1 ≤ f.count) (hhigh : f.count ≤ 28) (hlast : 1308 < f.offset + f.count) : exec .mreadCountersClear s =
      .next (returnChoose (replied f { statusReply f .range with offset := some (max f.offset 1308) } s)) := by
  rw [AccessRow.readClear.exec hexec, readClear_beyond ((readFormatOk_iff f true).2 ⟨hlength, hlow, hhigh, .inl rfl⟩)
    (by unfold lastRead; omega)]

end

/-- Settles O37: a refusal leaves the frame refused; and the checks that every table shares. -/
theorem refusedFrameChangesNothing : Obligations.RefusedFrameChangesNothing := by
  unfold Obligations.RefusedFrameChangesNothing
  refine ⟨fun c row f r s t hmem hexec hnext hreply hstatus => ?_, fun c row code size f s hmem hexec => ?_,
    fun f s hexec htable => ?_, fun c row code size f s hmem hexec => ?_⟩
  · have hrow : ∃ act, AccessRow c row act := by
      simp only [List.mem_cons, Prod.mk.injEq, List.not_mem_nil, or_false] at hmem
      rcases hmem with ⟨rfl, rfl⟩ | ⟨rfl, rfl⟩ | ⟨rfl, rfl⟩ | ⟨rfl, rfl⟩ | ⟨rfl, rfl⟩ | ⟨rfl, rfl⟩ | ⟨rfl, rfl⟩ |
        ⟨rfl, rfl⟩ | ⟨rfl, rfl⟩
      exacts [⟨_, .port⟩, ⟨_, .source⟩, ⟨_, .slot⟩, ⟨_, .path⟩, ⟨_, .taps⟩, ⟨_, .other⟩, ⟨_, .read⟩, ⟨_, .readTaps⟩,
        ⟨_, .readClear⟩]
    obtain ⟨act, hrow⟩ := hrow
    rw [hrow.exec hexec] at hnext
    cases hnext
    rw [(hrow.done f s).refused hreply hstatus]
  · have htables {act : MgmtFrame → State → State} (hrow : AccessRow c row act)
        (hchecks : f.table = code → ChecksWrite size act f)
        (hformat : f.writeFormatOk = false → act f s = replied f (statusReply f .format) s) :
        (f.payload.length < 4 ∨ 31 < f.payload.length →
          exec c s = .next (returnChoose (replied f (statusReply f .format) s))) ∧
        (4 ≤ f.payload.length → f.payload.length ≤ 31 → f.table = code →
          size ≤ (if f.flag11 then f.offset + (f.payload.length - 4) else f.offset) → exec c s =
          .next (returnChoose (replied f { statusReply f .range with offset := some (max f.offset size) } s))) := by
      have hiff := writeFormatOk_iff_length f
      rw [hrow.exec hexec]
      refine ⟨fun hbad => ?_, fun hlow hhigh htable hsize => ?_⟩
      · rw [hformat (by rw [Bool.eq_false_iff, Ne, hiff]; omega)]
      · rw [(hchecks htable).beyond s (hiff.2 ⟨hlow, hhigh⟩) (lastOffset_eq f hlow ▸ hsize)]
    simp only [List.mem_cons, Prod.mk.injEq, List.not_mem_nil, or_false] at hmem
    rcases hmem with ⟨rfl, rfl, rfl, rfl⟩ | ⟨rfl, rfl, rfl, rfl⟩ | ⟨rfl, rfl, rfl, rfl⟩ | ⟨rfl, rfl, rfl, rfl⟩ |
      ⟨rfl, rfl, rfl, rfl⟩ | ⟨rfl, rfl, rfl, rfl⟩
    · exact htables .port (fun _ => writeTable_checks 48 _ f) ((writeTable_checks 48 _ f).format s)
    · exact htables .source (fun _ => writeTable_checks 96 _ f) ((writeTable_checks 96 _ f).format s)
    · exact htables .slot (fun _ => writeTable_checks 576 _ f) ((writeTable_checks 576 _ f).format s)
    · exact htables .path (fun _ => writeTable_checks 1152 _ f) ((writeTable_checks 1152 _ f).format s)
    · exact htables .taps (fun _ => writeTable_checks 16384 _ f) ((writeTable_checks 16384 _ f).format s)
    · exact htables .other writeOther_checks fun h => writeOther_format (.inl h)
  · rw [AccessRow.other.exec hexec, writeOther_format (.inr htable)]
  · have hplain (hexec : Executing .mread f s) {n width : Nat} (hsize : tableSize code = some (n, width)) :
        (BadRead f → exec .mread s = .next (returnChoose (replied f (statusReply f .format) s))) ∧
        (f.payload.length = 3 → 1 ≤ f.count → f.count ≤ 28 → f.table = code → (f.flag11 = false ∨ code = 6) →
          n * width < f.offset + f.count → exec .mread s = .next (returnChoose
            (replied f { statusReply f .range with offset := some (max f.offset (n * width)) } s))) :=
      ⟨exec_mread_format hexec, fun hlength hlow hhigh htable hflag hlast =>
        exec_mread_beyond hexec (htable ▸ hsize) hlength hlow hhigh (htable ▸ hflag) hlast⟩
    simp only [List.mem_cons, Prod.mk.injEq, List.not_mem_nil, or_false] at hmem
    rcases hmem with ⟨rfl, rfl, rfl, rfl⟩ | ⟨rfl, rfl, rfl, rfl⟩ | ⟨rfl, rfl, rfl, rfl⟩ | ⟨rfl, rfl, rfl, rfl⟩ |
      ⟨rfl, rfl, rfl, rfl⟩ | ⟨rfl, rfl, rfl, rfl⟩ | ⟨rfl, rfl, rfl, rfl⟩ | ⟨rfl, rfl, rfl, rfl⟩ | ⟨rfl, rfl, rfl, rfl⟩
    · exact hplain hexec (n := 12) (width := 4) rfl
    · exact hplain hexec (n := 48) (width := 2) rfl
    · exact hplain hexec (n := 96) (width := 6) rfl
    · exact hplain hexec (n := 384) (width := 3) rfl
    · exact hplain hexec (n := 109) (width := 12) rfl
    · exact hplain hexec (n := 157) (width := 9) rfl
    · exact hplain hexec (n := 13) (width := 1) rfl
    · exact ⟨exec_mreadTaps_format hexec, fun hlength hlow hhigh _ hflag hlast =>
        exec_mreadTaps_beyond hexec hlength hlow hhigh (hflag.resolve_right (by decide)) hlast⟩
    · exact ⟨exec_mreadCountersClear_format hexec, fun hlength hlow hhigh _ _ hlast =>
        exec_mreadCountersClear_beyond hexec hlength hlow hhigh hlast⟩

end Machine
end Sys2Proof

namespace Sys2Proof
namespace Machine

/-! ### Bits of a word (R199) -/

theorem bits_eq_extract (w : Word) (hi lo : Nat) : bits w hi lo = (w.extractLsb' lo (hi + 1 - lo)).toNat := by
  rw [BitVec.extractLsb'_toNat, Nat.shiftRight_eq_div_pow, bits]

theorem num_le_one (b : Bool) : num b ≤ 1 := by
  cases b <;> decide

theorem eq_flag_iff (b : Bool) (w : Word) (i : Nat) : b = flag w i ↔ bits w i i = num b := by
  have hlt := bits_lt w i i
  rw [show i + 1 - i = 1 by omega] at hlt
  have hbit : bits w i i = 0 ∨ bits w i i = 1 := by omega
  rcases hbit with h | h <;> cases b <;> simp [flag, h, num]

/-- The bits that a mask of adjacent ones keeps are those of one field. -/
theorem and_mask_eq_zero {w m : Word} {hi lo : Nat} (hm : m.toNat = (2 ^ (hi + 1 - lo) - 1) * 2 ^ lo)
    (h : bits w hi lo = 0) : w &&& m = 0 := by
  refine BitVec.eq_of_toNat_eq (Nat.eq_of_testBit_eq fun i => ?_)
  rw [BitVec.toNat_and, hm, Nat.testBit_and, Nat.mul_comm, Nat.testBit_two_pow_mul, Nat.testBit_two_pow_sub_one]
  by_cases hlow : lo ≤ i
  · have hbit := congrArg (Nat.testBit · (i - lo)) h
    simp only [bits, Nat.testBit_mod_two_pow, Nat.testBit_div_two_pow, Nat.zero_testBit] at hbit
    rw [Nat.sub_add_cancel hlow] at hbit
    simp only [hlow, decide_true, Bool.true_and]
    rw [Bool.and_comm, hbit]
    simp
  · simp [hlow]

/-- Two masks at once. -/
theorem and_masks_eq_zero {w m n k : Word} (hk : k = m ||| n) (hm : w &&& m = 0) (hn : w &&& n = 0) : w &&& k = 0 := by
  rw [hk, BitVec.and_or_distrib_left, hm, hn]
  rfl

/-! ### The five entry layouts (R199) -/

theorem PortEntry.inRange_iff (e : PortEntry) : e.inRange = true ↔ 1 ≤ e.passThreshold ∧ e.passThreshold ≤ 15 ∧
    1 ≤ e.watchdogSpan ∧ e.watchdogSpan ≤ 255 ∧ e.minRate ≤ 4095 ∧ e.rateHysteresis ≤ 15 ∧ 1 ≤ e.stableGates ∧
    e.stableGates ≤ 4 ∧ 1 ≤ e.errorThreshold ∧ e.errorThreshold ≤ 15 := by
  simp [PortEntry.inRange, and_assoc]

theorem LaneEntry.inRange_iff (e : LaneEntry) : e.inRange = true ↔
    e.divisor ≤ 15 ∧ 2 ≤ e.window ∧ e.window ≤ 60 ∧ 1 ≤ e.errorThreshold ∧ e.errorThreshold ≤ 15 := by
  simp [LaneEntry.inRange, and_assoc]

theorem SlotEntry.inRange_iff (e : SlotEntry) : e.inRange = true ↔
    (e.divisor = 1 ∨ e.divisor = 2 ∨ e.divisor = 4) ∧ e.phase < e.divisor ∧ e.shift ≤ 15 ∧ 1 ≤ e.limit ∧
    e.limit ≤ 32767 ∧ 1 ≤ e.muFloor ∧ e.muFloor ≤ e.muStart ∧ e.muStart ≤ e.muCeiling ∧ e.muCeiling ≤ 255 ∧
    8 ≤ e.nMin ∧ e.nMin ≤ 40 ∧ e.quiet ≤ 32767 ∧ e.burst ≤ 32767 := by
  simp [SlotEntry.inRange, and_assoc, or_assoc]

theorem PathEntry.inRange_iff (e : PathEntry) : e.inRange = true ↔ 1 ≤ e.taps ∧ e.taps ≤ 32 ∧ e.delay ≤ 7 := by
  simp [PathEntry.inRange, and_assoc]

theorem PortEntry.ofWords_eq_some_iff (a b c d : Word) (e : PortEntry) : PortEntry.ofWords [a, b, c, d] = some e ↔
    (e.enabled = flag a 15 ∧ e.acceptDamaged = flag a 14 ∧ e.strict = flag a 13 ∧ e.passThreshold = bits a 7 4 ∧
      e.errorThreshold = bits a 3 0 ∧ e.watchdogSpan = bits b 7 0 ∧ e.minRate = bits c 11 0 ∧
      e.rateHysteresis = bits d 7 4 ∧ e.stableGates = bits d 2 0) ∧ e.inRange = true := by
  refine Option.ite_none_right_eq_some.trans ⟨?_, ?_⟩
  · rintro ⟨hrange, he⟩
    cases he
    exact ⟨⟨rfl, rfl, rfl, rfl, rfl, rfl, rfl, rfl, rfl⟩, hrange⟩
  · obtain ⟨enabled, accept, strict, pass, span, rate, hysteresis, gates, errors⟩ := e
    rintro ⟨⟨rfl, rfl, rfl, rfl, rfl, rfl, rfl, rfl, rfl⟩, hrange⟩
    exact ⟨hrange, rfl⟩

theorem LaneEntry.ofWords_eq_some_iff (a b c d : Word) (e : LaneEntry) : LaneEntry.ofWords [a, b, c, d] = some e ↔
    (e.divisor = bits a 3 0 ∧ e.window = bits b 5 0 ∧ e.errorThreshold = bits c 3 0) ∧ e.inRange = true := by
  refine Option.ite_none_right_eq_some.trans ⟨?_, ?_⟩
  · rintro ⟨hrange, he⟩
    cases he
    exact ⟨⟨rfl, rfl, rfl⟩, hrange⟩
  · obtain ⟨divisor, window, errors⟩ := e
    rintro ⟨⟨rfl, rfl, rfl⟩, hrange⟩
    exact ⟨hrange, rfl⟩

theorem SlotEntry.ofWords_eq_some_iff (a b c d x y : Word) (e : SlotEntry) :
    SlotEntry.ofWords [a, b, c, d, x, y] = some e ↔
    (e.enabled = flag a 15 ∧ e.autoResume = flag a 14 ∧ e.adaptation = flag a 13 ∧ e.divisor = bits a 10 8 ∧
      e.phase = bits a 5 4 ∧ e.shift = bits a 3 0 ∧ e.limit = bits b 14 0 ∧ e.muFloor = bits c 15 8 ∧
      e.muCeiling = bits c 7 0 ∧ e.muStart = bits d 15 8 ∧ e.nMin = bits d 5 0 ∧ e.quiet = bits x 14 0 ∧
      e.burst = bits y 14 0) ∧ e.inRange = true := by
  refine Option.ite_none_right_eq_some.trans ⟨?_, ?_⟩
  · rintro ⟨hrange, he⟩
    cases he
    exact ⟨⟨rfl, rfl, rfl, rfl, rfl, rfl, rfl, rfl, rfl, rfl, rfl, rfl, rfl⟩, hrange⟩
  · cases e
    rintro ⟨⟨rfl, rfl, rfl, rfl, rfl, rfl, rfl, rfl, rfl, rfl, rfl, rfl, rfl⟩, hrange⟩
    exact ⟨hrange, rfl⟩

theorem SourceKind.ofCode_eq_some_iff (n : Nat) (k : SourceKind) : SourceKind.ofCode n = some k ↔ n = k.code := by
  constructor
  · intro h
    unfold SourceKind.ofCode at h
    split at h <;> cases h <;> rfl
  · rintro rfl
    cases k <;> rfl

theorem PathState.ofCode_eq_some_iff (n : Nat) (k : PathState) : PathState.ofCode n = some k ↔ n = k.code := by
  constructor
  · intro h
    unfold PathState.ofCode at h
    split at h <;> cases h <;> rfl
  · rintro rfl
    cases k <;> rfl

theorem SourceEntry.ofWords_eq_some_iff (a b : Word) (e : SourceEntry) : SourceEntry.ofWords [a, b] = some e ↔
    bits a 15 14 = e.kind.code ∧ e.invert = flag a 13 ∧ e.port.1 = bits a 12 10 ∧ e.node.1 = bits a 9 5 ∧
      e.channel.1 = bits a 4 0 ∧ e.slot.1 = bits b 14 8 ∧ e.holdLimit = bits b 7 0 := by
  constructor
  · intro h
    unfold SourceEntry.ofWords at h
    dsimp only at h
    split at h
    · next hkind hport hnode hchannel hslot =>
      cases h
      exact ⟨(SourceKind.ofCode_eq_some_iff _ _).1 hkind, rfl, (toFin_eq_some_iff.1 hport).symm,
        (toFin_eq_some_iff.1 hnode).symm, (toFin_eq_some_iff.1 hchannel).symm, (toFin_eq_some_iff.1 hslot).symm, rfl⟩
    · cases h
  · rintro ⟨hkind, hinvert, hport, hnode, hchannel, hslot, hhold⟩
    have hkind' := (SourceKind.ofCode_eq_some_iff _ _).2 hkind
    have hport' := toFin_eq_some_iff.2 hport.symm
    have hnode' := toFin_eq_some_iff.2 hnode.symm
    have hchannel' := toFin_eq_some_iff.2 hchannel.symm
    have hslot' := toFin_eq_some_iff.2 hslot.symm
    obtain ⟨kind, port, node, channel, slot, invert, hold⟩ := e
    simp only [SourceEntry.ofWords, entryWord, List.getD_cons_zero, List.getD_cons_succ, hkind', hport', hnode',
      hchannel', hslot', ← hinvert, ← hhold]

theorem PathEntry.ofWords_eq_some_iff (a b c : Word) (e : PathEntry) : PathEntry.ofWords [a, b, c] = some e ↔
    (bits a 15 14 = e.state.code ∧ e.adaptive = flag a 13 ∧ e.delay = bits a 2 0 ∧ e.slot.1 = bits b 14 8 ∧
      e.source.1 = bits b 5 0 ∧ e.taps = bits c 15 10 ∧ e.block.1 = bits c 8 0) ∧ e.inRange = true := by
  constructor
  · intro h
    unfold PathEntry.ofWords at h
    dsimp only at h
    split at h
    · next hstate hslot hsource hblock =>
      obtain ⟨hrange, he⟩ := Option.ite_none_right_eq_some.1 h
      cases he
      exact ⟨⟨(PathState.ofCode_eq_some_iff _ _).1 hstate, rfl, rfl, (toFin_eq_some_iff.1 hslot).symm,
        (toFin_eq_some_iff.1 hsource).symm, rfl, (toFin_eq_some_iff.1 hblock).symm⟩, hrange⟩
    · cases h
  · rintro ⟨⟨hstate, hadaptive, hdelay, hslot, hsource, htaps, hblock⟩, hrange⟩
    have hstate' := (PathState.ofCode_eq_some_iff _ _).2 hstate
    have hslot' := toFin_eq_some_iff.2 hslot.symm
    have hsource' := toFin_eq_some_iff.2 hsource.symm
    have hblock' := toFin_eq_some_iff.2 hblock.symm
    obtain ⟨state, slot, source, block, taps, delay, adaptive⟩ := e
    simp only [PathEntry.ofWords, entryWord, List.getD_cons_zero, List.getD_cons_succ, hstate', hslot', hsource',
      hblock', ← hadaptive, ← hdelay, ← htaps]
    exact if_pos hrange

/-! ### Assembly, and the words of an entry (R7, R167, R199) -/

/-- R7, R167: each word of an assembled entry. -/
theorem assemble_getElem? (f : MgmtFrame) (width e j : Nat) (base : List Word) :
    (f.assemble width e base)[j]? = base[j]?.map fun w => (f.supplied (e * width + j)).getD w := by
  rw [MgmtFrame.assemble, mapFrom_getElem?, Nat.zero_add]

theorem supplied_increment {f : MgmtFrame} (h : f.flag11 = true) (off : Nat) :
    f.supplied off = if f.offset ≤ off then f.data[off - f.offset]? else none := by
  rw [MgmtFrame.supplied, if_pos h]

theorem supplied_same {f : MgmtFrame} (h : f.flag11 = false) (off : Nat) :
    f.supplied off = if off = f.offset then f.data.getLast? else none := by
  rw [MgmtFrame.supplied, h]
  rfl

theorem bits_mkWord (n hi lo : Nat) : bits (mkWord n) hi lo = n % 65536 / 2 ^ lo % 2 ^ (hi + 1 - lo) := by
  rw [bits, mkWord, BitVec.toNat_ofNat]

theorem PortEntry.ofWords_toWords {e : PortEntry} (h : e.inRange = true) : PortEntry.ofWords e.toWords = some e := by
  refine (PortEntry.ofWords_eq_some_iff _ _ _ _ e).2 ⟨?_, h⟩
  have hrange := e.inRange_iff.1 h
  have henabled := num_le_one e.enabled
  have haccept := num_le_one e.acceptDamaged
  have hstrict := num_le_one e.strict
  simp only [eq_flag_iff, bits_mkWord]
  omega

theorem LaneEntry.ofWords_toWords {e : LaneEntry} (h : e.inRange = true) : LaneEntry.ofWords e.toWords = some e := by
  refine (LaneEntry.ofWords_eq_some_iff _ _ _ _ e).2 ⟨?_, h⟩
  have hrange := e.inRange_iff.1 h
  simp only [bits_mkWord]
  omega

theorem SourceKind.code_le (k : SourceKind) : k.code ≤ 2 := by cases k <;> decide
theorem PathState.code_le (k : PathState) : k.code ≤ 2 := by cases k <;> decide

theorem SourceEntry.ofWords_toWords {e : SourceEntry} (h : e.inRange = true) :
    SourceEntry.ofWords e.toWords = some e := by
  refine (SourceEntry.ofWords_eq_some_iff _ _ e).2 ?_
  have hhold : e.holdLimit ≤ 255 := of_decide_eq_true h
  have hkind := e.kind.code_le
  have hinvert := num_le_one e.invert
  have hslot := e.slot.isLt
  simp only [eq_flag_iff, bits_mkWord]
  omega

theorem SlotEntry.ofWords_toWords {e : SlotEntry} (h : e.inRange = true) : SlotEntry.ofWords e.toWords = some e := by
  refine (SlotEntry.ofWords_eq_some_iff _ _ _ _ _ _ e).2 ⟨?_, h⟩
  have hrange := e.inRange_iff.1 h
  have henabled := num_le_one e.enabled
  have hresume := num_le_one e.autoResume
  have hadaptation := num_le_one e.adaptation
  simp only [eq_flag_iff, bits_mkWord]
  omega

theorem PathEntry.ofWords_toWords {e : PathEntry} (h : e.inRange = true) : PathEntry.ofWords e.toWords = some e := by
  refine (PathEntry.ofWords_eq_some_iff _ _ _ e).2 ⟨?_, h⟩
  have hrange := e.inRange_iff.1 h
  have hstate := e.state.code_le
  have hadaptive := num_le_one e.adaptive
  have hslot := e.slot.isLt
  have hsource := e.source.isLt
  have hblock := e.block.isLt
  simp only [eq_flag_iff, bits_mkWord]
  omega

/-! ### The bits of no field (R199) -/

theorem PortEntry.toWords_unused {e : PortEntry} (h : e.inRange = true) : ∃ a b c d, e.toWords = [a, b, c, d] ∧
    a &&& 0x1F00 = 0 ∧ b &&& 0xFF00 = 0 ∧ c &&& 0xF000 = 0 ∧ d &&& 0xFF08 = 0 := by
  have hrange := e.inRange_iff.1 h
  have henabled := num_le_one e.enabled
  have haccept := num_le_one e.acceptDamaged
  have hstrict := num_le_one e.strict
  refine ⟨_, _, _, _, rfl, and_mask_eq_zero (hi := 12) (lo := 8) rfl ?_, and_mask_eq_zero (hi := 15) (lo := 8) rfl ?_,
    and_mask_eq_zero (hi := 15) (lo := 12) rfl ?_, and_masks_eq_zero (m := 0xFF00) (n := 0x0008) (by decide)
      (and_mask_eq_zero (hi := 15) (lo := 8) rfl ?_) (and_mask_eq_zero (hi := 3) (lo := 3) rfl ?_)⟩ <;>
    simp only [bits_mkWord] <;> omega

theorem LaneEntry.toWords_unused {e : LaneEntry} (h : e.inRange = true) : ∃ a b c, e.toWords = [a, b, c, 0] ∧
    a &&& 0xFFF0 = 0 ∧ b &&& 0xFFC0 = 0 ∧ c &&& 0xFFF0 = 0 := by
  have hrange := e.inRange_iff.1 h
  refine ⟨_, _, _, rfl, and_mask_eq_zero (hi := 15) (lo := 4) rfl ?_, and_mask_eq_zero (hi := 15) (lo := 6) rfl ?_,
    and_mask_eq_zero (hi := 15) (lo := 4) rfl ?_⟩ <;> simp only [bits_mkWord] <;> omega

theorem SourceEntry.toWords_unused {e : SourceEntry} (h : e.inRange = true) :
    ∃ a b, e.toWords = [a, b] ∧ b &&& 0x8000 = 0 := by
  have hhold : e.holdLimit ≤ 255 := of_decide_eq_true h
  have hslot := e.slot.isLt
  refine ⟨_, _, rfl, and_mask_eq_zero (hi := 15) (lo := 15) rfl ?_⟩
  simp only [bits_mkWord]
  omega

theorem SlotEntry.toWords_unused {e : SlotEntry} (h : e.inRange = true) : ∃ a b c d x y,
    e.toWords = [a, b, c, d, x, y] ∧ a &&& 0x18C0 = 0 ∧ b &&& 0x8000 = 0 ∧ d &&& 0x00C0 = 0 ∧ x &&& 0x8000 = 0 ∧
      y &&& 0x8000 = 0 := by
  have hrange := e.inRange_iff.1 h
  have henabled := num_le_one e.enabled
  have hresume := num_le_one e.autoResume
  have hadaptation := num_le_one e.adaptation
  refine ⟨_, _, _, _, _, _, rfl, and_masks_eq_zero (m := 0x1800) (n := 0x00C0) (by decide)
    (and_mask_eq_zero (hi := 12) (lo := 11) rfl ?_) (and_mask_eq_zero (hi := 7) (lo := 6) rfl ?_),
    and_mask_eq_zero (hi := 15) (lo := 15) rfl ?_, and_mask_eq_zero (hi := 7) (lo := 6) rfl ?_,
    and_mask_eq_zero (hi := 15) (lo := 15) rfl ?_, and_mask_eq_zero (hi := 15) (lo := 15) rfl ?_⟩ <;>
    simp only [bits_mkWord] <;> omega

theorem PathEntry.toWords_unused {e : PathEntry} (h : e.inRange = true) : ∃ a b c, e.toWords = [a, b, c] ∧
    a &&& 0x1FF8 = 0 ∧ b &&& 0x80C0 = 0 ∧ c &&& 0x0200 = 0 := by
  have hrange := e.inRange_iff.1 h
  have hstate := e.state.code_le
  have hadaptive := num_le_one e.adaptive
  have hslot := e.slot.isLt
  have hsource := e.source.isLt
  have hblock := e.block.isLt
  refine ⟨_, _, _, rfl, and_mask_eq_zero (hi := 12) (lo := 3) rfl ?_, and_masks_eq_zero (m := 0x8000) (n := 0x00C0)
    (by decide) (and_mask_eq_zero (hi := 15) (lo := 15) rfl ?_) (and_mask_eq_zero (hi := 7) (lo := 6) rfl ?_),
    and_mask_eq_zero (hi := 9) (lo := 9) rfl ?_⟩ <;> simp only [bits_mkWord] <;> omega

/-- Settles O38: each word of an assembled entry, each layout's fields, and the words of an entry read back. -/
theorem entryAssemblyAndLayouts : Obligations.EntryAssemblyAndLayouts := by
  unfold Obligations.EntryAssemblyAndLayouts
  refine ⟨fun f width e j base old hold => ?_, ?_, fun e h => ⟨e.ofWords_toWords h, e.toWords_unused h⟩,
    fun e h => ⟨e.ofWords_toWords h, e.toWords_unused h⟩, fun e h => ⟨e.ofWords_toWords h, e.toWords_unused h⟩,
    fun e h => ⟨e.ofWords_toWords h, e.toWords_unused h⟩, fun e h => ⟨e.ofWords_toWords h, e.toWords_unused h⟩⟩
  · rw [assemble_getElem?, hold, Option.map_some]
    refine ⟨fun hflag i w hi hw => ?_, fun hflag hout => ?_, fun hflag w hoff hw => ?_, fun hflag hoff => ?_⟩
    · rw [supplied_increment hflag, ← hi, if_pos (Nat.le_add_right _ _), Nat.add_sub_cancel_left, hw, Option.getD_some]
    · rw [supplied_increment hflag]
      split
      · rw [List.getElem?_eq_none (by omega), Option.getD_none]
      · rw [Option.getD_none]
    · rw [supplied_same hflag, if_pos hoff.symm, hw, Option.getD_some]
    · rw [supplied_same hflag, if_neg (Ne.symm hoff), Option.getD_none]
  · intro field
    have hfield (w : Word) (hi lo : Nat) : field w hi lo = bits w hi lo := (bits_eq_extract w hi lo).symm
    clear_value field
    simp only [hfield, ← flag_eq_getLsbD]
    refine ⟨fun a b c d e => ?_, fun a b c d e => ?_, fun a b e => ?_, fun a b c d x y e => ?_, fun a b c e => ?_⟩
    · refine (PortEntry.ofWords_eq_some_iff a b c d e).trans (and_congr_right fun h => ?_)
      obtain ⟨-, -, -, hpass, herrors, hspan, hrate, hhysteresis, hgates⟩ := h
      have hpassLt := bits_lt a 7 4
      have herrorsLt := bits_lt a 3 0
      have hspanLt := bits_lt b 7 0
      have hrateLt := bits_lt c 11 0
      have hhysteresisLt := bits_lt d 7 4
      rw [PortEntry.inRange_iff]
      omega
    · refine (LaneEntry.ofWords_eq_some_iff a b c d e).trans (and_congr_right fun h => ?_)
      obtain ⟨hdivisor, hwindow, herrors⟩ := h
      have hdivisorLt := bits_lt a 3 0
      have herrorsLt := bits_lt c 3 0
      rw [LaneEntry.inRange_iff]
      omega
    · refine (SourceEntry.ofWords_eq_some_iff a b e).trans (and_congr_left fun _ => ?_)
      cases e.kind <;> exact Iff.rfl
    · refine (SlotEntry.ofWords_eq_some_iff a b c d x y e).trans (and_congr_right fun h => ?_)
      obtain ⟨-, -, -, hdivisor, hphase, hshift, hlimit, hfloor, hceiling, hstart, hnMin, hquiet, hburst⟩ := h
      have hshiftLt := bits_lt a 3 0
      have hlimitLt := bits_lt b 14 0
      have hceilingLt := bits_lt c 7 0
      have hquietLt := bits_lt x 14 0
      have hburstLt := bits_lt y 14 0
      rw [SlotEntry.inRange_iff]
      omega
    · have hdelayLt := bits_lt a 2 0
      rw [PathEntry.ofWords_eq_some_iff, PathEntry.inRange_iff]
      constructor
      · rintro ⟨⟨hstate, hadaptive, hdelay, hslot, hsource, htaps, hblock⟩, hlow, hhigh, -⟩
        refine ⟨hstate.trans ?_, hadaptive, hdelay, hslot, hsource, htaps, hblock, hlow, hhigh⟩
        cases e.state <;> rfl
      · rintro ⟨hstate, hadaptive, hdelay, hslot, hsource, htaps, hblock, hlow, hhigh⟩
        refine ⟨⟨hstate.trans ?_, hadaptive, hdelay, hslot, hsource, htaps, hblock⟩, hlow, hhigh, by omega⟩
        cases e.state <;> rfl

end Machine
end Sys2Proof

namespace Sys2Proof
namespace Machine

/-! ### What a table's write decides entry by entry (R167 to R169) -/

theorem touches_lt {f : MgmtFrame} {w n e : Nat} (hlast : f.lastOffset < n * w) (h : f.touches w e = true) : e < n := by
  simp only [MgmtFrame.touches, Bool.and_eq_true, decide_eq_true_eq] at h
  exact h.2.trans_lt (Nat.div_lt_of_lt_mul (Nat.mul_comm n w ▸ hlast))

section
variable {f : MgmtFrame} {w n : Nat} {p : Nat → Bool}

/-- R168: the lowest touched entry that a check refuses, among the table's entries. -/
theorem find?_touched_lowest {e : Fin n} (he : p e.1 = true) (htouch : f.touches w e.1 = true)
    (hlow : ∀ x : Fin n, x < e → f.touches w x.1 = true → p x.1 = false) : (f.touched w).find? p = some e.1 :=
  find?_touched_eq_some.2 ⟨he, htouch, fun x hx ht => hlow ⟨x, hx.trans e.2⟩ hx ht⟩

theorem find?_touched_none (hlast : f.lastOffset < n * w) (h : ∀ x : Fin n, f.touches w x.1 = true → p x.1 = false) :
    (f.touched w).find? p = none :=
  find?_touched_eq_none_iff.2 fun e he => h ⟨e, touches_lt hlast he⟩ he

end

section
variable {α : Type} {touched : Bool} {image : Option α} {old new : α}
  (h : some new = if touched then image else some old)
include h

/-- What an entry of the resulting table is, where the entry's image is in its range. -/
theorem written_eq : (if touched then image.getD old else old) = new := by
  cases touched with
  | false => exact (Option.some.inj h).symm
  | true =>
    rw [if_pos rfl] at h
    rw [if_pos rfl, ← h, Option.getD_some]

theorem image_isNone (htouched : touched = true) : image.isNone = false := by
  rw [if_pos htouched] at h
  rw [← h, Option.isNone_some]

end

/-- An any over numbered entries. -/
theorem mapFrom_any_iff {α : Type} {n : Nat} (g : Nat → α → Bool) (v : Vector α n) :
    (mapFrom g 0 v.toList).any id = true ↔ ∃ i : Fin n, g i.1 v[i] = true := by
  constructor
  · intro h
    by_contra hnone
    push Not at hnone
    refine Bool.false_ne_true (Eq.trans (List.any_eq_false.2 fun b hb => ?_).symm h)
    obtain ⟨i, hi⟩ := List.getElem?_of_mem hb
    rw [mapFrom_getElem?, Nat.zero_add] at hi
    obtain ⟨x, hx, rfl⟩ := Option.map_eq_some_iff.1 hi
    have hlt : i < n := by simpa using (List.getElem?_eq_some_iff.1 hx).1
    rw [toList_getElem?_fin v ⟨i, hlt⟩] at hx
    cases hx
    exact hnone ⟨i, hlt⟩
  · rintro ⟨i, hi⟩
    by_contra hfalse
    rw [mapFrom_any_eq_false (Bool.eq_false_iff.2 hfalse) i] at hi
    cases hi

/-! ### SOURCE (R44 to R46) -/

theorem sourceEntryFails_eq (f : MgmtFrame) (s : State) (q : Fin 48) :
    sourceEntryFails f s q.1 = (sourceImage f q.1 s.sourceTable[q]).isNone := by
  rw [sourceEntryFails, toList_getElem?_fin]

theorem sameKey_iff (a b : SourceEntry) : sameKey a b = true ↔
    (a.kind = .sensor ∧ b.kind = .sensor ∧ a.port = b.port ∧ a.node = b.node ∧ a.channel = b.channel) ∨
      (a.kind = .aggressor ∧ b.kind = .aggressor ∧ a.slot = b.slot) := by
  unfold sameKey
  cases a.kind <;> cases b.kind <;> simp [and_assoc]

theorem keyClash_iff (t : Vector SourceEntry 48) (x : Fin 48) :
    keyClash t x.1 = true ↔ ∃ y : Fin 48, y ≠ x ∧ sameKey t[x] t[y] = true := by
  unfold keyClash
  rw [toList_getElem?_fin]
  refine (mapFrom_any_iff _ t).trans (exists_congr fun y => ?_)
  rw [Bool.and_eq_true, decide_eq_true_eq, Ne, Ne, Fin.ext_iff]

theorem mappingChanged_iff (a b : SourceEntry) : mappingChanged a b = true ↔ a.kind ≠ b.kind ∨
    (b.kind = .sensor ∧ (a.port ≠ b.port ∨ a.node ≠ b.node ∨ a.channel ≠ b.channel)) ∨
      (b.kind = .aggressor ∧ a.slot ≠ b.slot) := by
  unfold mappingChanged
  cases b.kind <;> simp [or_assoc]

theorem applySource_latches_get (f : MgmtFrame) (s : State) (q : Fin 48) : (applySource f s).latches[q] =
    if mappingChanged s.sourceTable[q] (sourceResult f s)[q] then Latch.reset else s.latches[q] := by
  refine (mapEntries_getElem _ s.latches q.1 q.2).trans ?_
  rw [toList_getElem?_fin, toList_getElem?_fin]
  rfl

section
variable {f : MgmtFrame} {s : State} (hformat : f.writeFormatOk = true) (hlast : f.lastOffset < 96)
include hformat hlast

theorem writeSource_range {e : Nat} (h : (f.touched 2).find? (sourceEntryFails f s) = some e) :
    writeSource f s = replied f { statusReply f .range with offset := some (f.offsetIn 2 e) } s := by
  rw [writeSource, writeTable_within hformat hlast]
  simp only [h, refuseAt_eq]

theorem writeSource_plan {e : Nat} (hrange : (f.touched 2).find? (sourceEntryFails f s) = none)
    (h : (f.touched 2).find? (keyClash (sourceResult f s)) = some e) :
    writeSource f s = replied f { statusReply f .plan with offset := some (f.offsetIn 2 e) } s := by
  rw [writeSource, writeTable_within hformat hlast]
  simp only [hrange, h, refuseAt_eq]

theorem writeSource_applies (hrange : (f.touched 2).find? (sourceEntryFails f s) = none)
    (h : (f.touched 2).find? (keyClash (sourceResult f s)) = none) :
    writeSource f s = replied f (statusReply f .done) (applySource f s) := by
  rw [writeSource, writeTable_within hformat hlast]
  simp only [hrange, h, answer_eq_replied]

end

/-- Settles O40: the lowest entry out of range, the lowest clash of keys, and the write applied. -/
theorem sourceWriteApplies : Obligations.SourceWriteApplies := by
  unfold Obligations.SourceWriteApplies
  intro f s hexec hformat hlast refused
  have hrow := AccessRow.source.exec hexec
  have hbound : f.lastOffset < 48 * 2 := hlast
  refine ⟨fun e htouch hnone hlow => ?_, fun table htable => ?_⟩
  · rw [hrow, writeSource_range hformat hlast (find?_touched_lowest (e := e) ?_ htouch fun x hx ht => ?_)]
    · rfl
    · rw [sourceEntryFails_eq, hnone, Option.isNone_none]
    · rw [sourceEntryFails_eq, Option.isNone_eq_false_iff]
      exact hlow x hx ht
  · intro clash
    have hresult : sourceResult f s = table := vector_ext fun q => (sourceResult_get f s q).trans (written_eq (htable q))
    have hrange : (f.touched 2).find? (sourceEntryFails f s) = none := find?_touched_none hbound fun x ht => by
      rw [sourceEntryFails_eq]
      exact image_isNone (htable x) ht
    have hclash (x : Fin 48) : keyClash (sourceResult f s) x.1 = true ↔ clash x := by
      rw [hresult, keyClash_iff]
      exact exists_congr fun y => and_congr_right fun _ => sameKey_iff _ _
    refine ⟨fun e htouch he hlow => ?_, fun hfree => ⟨(applySource f s).latches, ?_, fun q => ?_⟩⟩
    · rw [hrow, writeSource_plan hformat hlast hrange (find?_touched_lowest (e := e) ((hclash e).2 he) htouch
        fun x hx ht => Bool.eq_false_iff.2 (mt (hclash x).1 (hlow x hx ht)))]
      rfl
    · rw [hrow, writeSource_applies hformat hlast hrange (find?_touched_none hbound
        fun x ht => Bool.eq_false_iff.2 (mt (hclash x).1 (hfree x ht))), ← hresult]
      rfl
    · rw [applySource_latches_get, hresult]
      have hchanged := mappingChanged_iff s.sourceTable[q] table[q]
      by_cases h : mappingChanged s.sourceTable[q] table[q] = true
      · rw [if_pos h]
        exact (if_pos (hchanged.1 h)).symm
      · rw [if_neg h]
        exact (if_neg (mt hchanged.2 h)).symm

/-! ### SLOT (R14, R66, R94, R96, R140) -/

theorem slotEntryFails_eq (f : MgmtFrame) (s : State) (t : Fin 96) :
    slotEntryFails f s t.1 = (slotImage f t.1 s.slotTable[t]).isNone := by
  rw [slotEntryFails, toList_getElem?_fin]

theorem disablesLive_iff (f : MgmtFrame) (s : State) (t : Fin 96) : disablesLive f s t.1 = true ↔
    s.slotTable[t].enabled = true ∧ (slotResult f s)[t].enabled = false ∧ s.channels[t].state ≠ .off := by
  unfold disablesLive
  rw [toList_getElem?_fin, toList_getElem?_fin, toList_getElem?_fin]
  simp only [Bool.and_eq_true, Bool.not_eq_true', bne_iff_ne, and_assoc]

section
variable {f : MgmtFrame} {s : State} (hformat : f.writeFormatOk = true) (hlast : f.lastOffset < 576)
include hformat hlast

theorem writeSlot_range {e : Nat} (h : (f.touched 6).find? (slotEntryFails f s) = some e) :
    writeSlot f s = replied f { statusReply f .range with offset := some (f.offsetIn 6 e) } s := by
  rw [writeSlot, writeTable_within hformat hlast]
  simp only [h, refuseAt_eq]

theorem writeSlot_state {e : Nat} (hrange : (f.touched 6).find? (slotEntryFails f s) = none)
    (h : (f.touched 6).find? (disablesLive f s) = some e) :
    writeSlot f s = replied f { statusReply f .state with offset := some (f.offsetIn 6 e) } s := by
  rw [writeSlot, writeTable_within hformat hlast]
  simp only [hrange, h, refuseAt_eq]

theorem writeSlot_applies (hrange : (f.touched 6).find? (slotEntryFails f s) = none)
    (h : (f.touched 6).find? (disablesLive f s) = none) :
    writeSlot f s = replied f (statusReply f .done) (applySlot f s) := by
  rw [writeSlot, writeTable_within hformat hlast]
  simp only [hrange, h, answer_eq_replied]

end

/-- Settles O41: the lowest entry out of range, the lowest live slot disabled, and the write applied. -/
theorem slotWriteApplies : Obligations.SlotWriteApplies := by
  unfold Obligations.SlotWriteApplies
  intro f s hexec hformat hlast refused
  have hrow := AccessRow.slot.exec hexec
  have hbound : f.lastOffset < 96 * 6 := hlast
  refine ⟨fun e htouch hnone hlow => ?_, fun table htable => ?_⟩
  · rw [hrow, writeSlot_range hformat hlast (find?_touched_lowest (e := e) ?_ htouch fun x hx ht => ?_)]
    · rfl
    · rw [slotEntryFails_eq, hnone, Option.isNone_none]
    · rw [slotEntryFails_eq, Option.isNone_eq_false_iff]
      exact hlow x hx ht
  · intro live
    have hresult : slotResult f s = table := vector_ext fun t => (slotResult_get f s t).trans (written_eq (htable t))
    have hrange : (f.touched 6).find? (slotEntryFails f s) = none := find?_touched_none hbound fun x ht => by
      rw [slotEntryFails_eq]
      exact image_isNone (htable x) ht
    have hlive (x : Fin 96) : disablesLive f s x.1 = true ↔ live x := by
      rw [disablesLive_iff, hresult]
    have htouched {e : Fin 96} (he : live e) : f.touches 6 e.1 = true := by
      obtain ⟨hbefore, hafter, -⟩ := he
      by_contra hnot
      have hsame := Option.some.inj ((htable e).trans (if_neg hnot))
      rw [hsame, hbefore] at hafter
      cases hafter
    refine ⟨fun e he hlow => ?_, fun hfree => ⟨(applySlot f s).gain, ?_, fun n => ?_⟩⟩
    · rw [hrow, writeSlot_state hformat hlast hrange (find?_touched_lowest (e := e) ((hlive e).2 he) (htouched he)
        fun x hx _ => Bool.eq_false_iff.2 (mt (hlive x).1 (hlow x hx)))]
      rfl
    · rw [hrow, writeSlot_applies hformat hlast hrange (find?_touched_none hbound
        fun x _ => Bool.eq_false_iff.2 (mt (hlive x).1 (hfree x))), ← hresult]
      rfl
    · rw [GainLegal.applySlot_gain_get, hresult]
      by_cases h : s.slotTable[n].muFloor = table[n].muFloor ∧ s.slotTable[n].muCeiling = table[n].muCeiling
      · rw [if_pos h, if_neg (by rw [h.1, h.2]; simp)]
      · rw [if_neg h, if_pos (by by_contra hsame; push Not at hsame; exact h hsame), clampMu]

end Machine
end Sys2Proof

namespace Sys2Proof
namespace Machine

/-! ### PATH (R2, R5 to R9) -/

theorem pathEntryFails_eq (f : MgmtFrame) (s : State) (i : Fin 384) :
    pathEntryFails f s i.1 = (pathImage f i.1 (projected s)[i]).isNone := by
  rw [pathEntryFails, toList_getElem?_fin]

theorem sharesBlock_iff {a : PathEntry} (ha : a.state = .enabled) (b : PathEntry) : sharesBlock a b = true ↔
    b.state = .enabled ∧ b.block = a.block ∧ (a.adaptive = true ∨ b.adaptive = true) := by
  simp only [sharesBlock, ha, Bool.and_eq_true, Bool.or_eq_true, beq_iff_eq, true_and, and_assoc,
    eq_comm (a := a.block)]

/-- R5, R6: what makes an entry of a table fail the plan check. -/
theorem planFails_iff (t : Vector PathEntry 384) (x : Fin 384) : planFails t x.1 = true ↔
    t[x].state = .enabled ∧ (8 < enabledPaths t t[x].slot ∨ ∃ y : Fin 384, y ≠ x ∧ t[y].state = .enabled ∧
      t[y].block = t[x].block ∧ (t[x].adaptive = true ∨ t[y].adaptive = true)) := by
  unfold planFails
  rw [toList_getElem?_fin]
  simp only [Bool.and_eq_true, Bool.or_eq_true, decide_eq_true_eq, beq_iff_eq]
  refine and_congr_right fun hx => or_congr_right ((mapFrom_any_iff _ t).trans (exists_congr fun y => ?_))
  rw [Bool.and_eq_true, decide_eq_true_eq, sharesBlock_iff hx]
  exact and_congr_left fun _ => not_congr Fin.ext_iff.symm

/-- R167: the touched entries of the Path Table, ascending. -/
def touchedPaths (f : MgmtFrame) : List (Fin 384) := (List.finRange 384).filter fun i => f.touches 3 i.1

theorem touchedPaths_map {f : MgmtFrame} (hlast : f.lastOffset < 1152) :
    (touchedPaths f).map Fin.val = f.touched 3 := by
  have hbound : f.lastOffset < 384 * 3 := hlast
  refine List.Pairwise.eq_of_mem_iff (r := (· < ·)) ?_ ?_ fun e => ?_
  · exact List.pairwise_map.2 ((List.pairwise_lt_finRange 384).filter _)
  · exact List.pairwise_lt_range'
  · rw [mem_touched, List.mem_map]
    constructor
    · rintro ⟨i, hi, rfl⟩
      exact (List.mem_filter.1 hi).2
    · intro he
      exact ⟨⟨e, touches_lt hbound he⟩, List.mem_filter.2 ⟨List.mem_finRange _, he⟩, rfl⟩

section
variable {f : MgmtFrame} {s : State} {table : Vector PathEntry 384}
  (htable : ∀ i : Fin 384, some table[i] =
    if f.touches 3 i then pathImage f i (projected s)[i] else some (projected s)[i])
include htable

/-- R9: the updates of a write, one for each touched entry. -/
theorem pathUpdates_eq (hlast : f.lastOffset < 1152) :
    pathUpdates f s = (touchedPaths f).map fun i => (i, table[i]) := by
  unfold pathUpdates
  rw [← touchedPaths_map hlast, List.filterMap_map, ← List.filterMap_eq_map']
  refine List.filterMap_congr fun i hi => ?_
  have htouch : f.touches 3 i.1 = true := (List.mem_filter.1 hi).2
  have himage : pathImage f i.1 (projected s)[i] = some table[i] := ((htable i).trans (if_pos htouch)).symm
  have hfin : toFin 384 i.1 = some i := toFin_eq_some_iff.2 rfl
  simp only [Function.comp_apply, hfin, himage, Option.map_some]

theorem pathResult_eq : pathResult f (projected s) = table :=
  vector_ext fun i => (pathResult_get f _ i).trans (written_eq (htable i))

end

section
variable {f : MgmtFrame} {s : State} (hformat : f.writeFormatOk = true) (hlast : f.lastOffset < 1152)
include hformat hlast

theorem writePath_range {e : Nat} (h : (f.touched 3).find? (pathEntryFails f s) = some e) :
    writePath f s = replied f { statusReply f .range with offset := some (f.offsetIn 3 e) } s := by
  rw [writePath, writeTable_within hformat hlast]
  simp only [h, refuseAt_eq]

variable (hrange : (f.touched 3).find? (pathEntryFails f s) = none)
include hrange

theorem writePath_plan {e : Nat} (h : (f.touched 3).find? (planFails (pathResult f (projected s))) = some e) :
    writePath f s = replied f { statusReply f .plan with offset := some (f.offsetIn 3 e) } s := by
  rw [writePath, writeTable_within hformat hlast]
  simp only [hrange, h, refuseAt_eq]

/-- R8, R9: a write that passes its checks is applied, or refused for want of room in the pending list. -/
theorem writePath_applies (h : (f.touched 3).find? (planFails (pathResult f (projected s))) = none) : writePath f s =
    if s.running ∧ 16 < s.pathPending.length + (f.touched 3).length then
      replied f { statusReply f .busy with offset := some f.offset } s
    else replied f (statusReply f .done) (applyPath f s) := by
  rw [writePath, writeTable_within hformat hlast]
  simp only [hrange, h, refuseAt_eq, answer_eq_replied]

end

/-- R5 to R9, R11: the projected table, entry by entry. -/
theorem projected_get (i : Fin 384) (s : State) :
    (∀ a e b, s.pathPending = a ++ (i, e) :: b → (∀ x ∈ b, x.1 ≠ i) → (projected s)[i] = e) ∧
    ((∀ x ∈ s.pathPending, x.1 ≠ i) → (projected s)[i] = s.pathTable[i]) := by
  refine ⟨fun a e b hsplit hlater => ?_, fun habsent => applyUpdates_get_of_absent habsent _⟩
  unfold projected
  rw [hsplit]
  exact applyUpdates_get_of_last hlater _

/-- Settles O42: the projected table; the lowest entry that a check refuses; and the write applied, or pending. -/
theorem pathWriteApplies : Obligations.PathWriteApplies := by
  unfold Obligations.PathWriteApplies
  refine ⟨projected_get, fun f s hexec hformat hlast => ?_⟩
  intro refused
  have hrow := AccessRow.path.exec hexec
  have hbound : f.lastOffset < 384 * 3 := hlast
  refine ⟨fun e htouch hnone hlow => ?_, fun table htable => ?_⟩
  · rw [hrow, writePath_range hformat hlast (find?_touched_lowest (e := e) ?_ htouch fun x hx ht => ?_)]
    · rfl
    · rw [pathEntryFails_eq, hnone, Option.isNone_none]
    · rw [pathEntryFails_eq, Option.isNone_eq_false_iff]
      exact hlow x hx ht
  · intro breaks touched
    have hresult := pathResult_eq htable
    have hlength : touched.length = (f.touched 3).length := by rw [← touchedPaths_map hlast, List.length_map]; rfl
    have hrange : (f.touched 3).find? (pathEntryFails f s) = none := find?_touched_none hbound fun x ht => by
      rw [pathEntryFails_eq]
      exact image_isNone (htable x) ht
    have hbreaks (x : Fin 384) : planFails (pathResult f (projected s)) x.1 = true ↔ breaks x := by
      rw [hresult]
      exact planFails_iff table x
    refine ⟨fun e htouch he hlow => ?_, fun hfree => ?_⟩
    · rw [hrow, writePath_plan hformat hlast hrange (find?_touched_lowest (e := e) ((hbreaks e).2 he) htouch
        fun x hx ht => Bool.eq_false_iff.2 (mt (hbreaks x).1 (hlow x hx ht)))]
      rfl
    · have happlies := writePath_applies hformat hlast hrange (find?_touched_none hbound
        fun x ht => Bool.eq_false_iff.2 (mt (hbreaks x).1 (hfree x ht)))
      rw [hrow, happlies, ← hlength]
      refine ⟨fun hstopped hpending => ?_, fun hrunning hroom => ?_, fun hrunning hfull => ?_⟩
      · have hprojected : projected s = s.pathTable := by rw [projected, hpending]; rfl
        rw [if_neg (by rw [hstopped]; simp), applyPath, hstopped, ← hprojected, hresult]
        rfl
      · rw [if_neg (by omega), applyPath, if_pos hrunning, pathUpdates_eq htable hlast]
        rfl
      · rw [if_pos ⟨hrunning, hfull⟩]

/-! ### PORT (R31, R32, R39, R116) -/

theorem portEntryFails_port (f : MgmtFrame) (s : State) (p : Fin 8) :
    portEntryFails f s p.1 = (portImage f p.1 s.portTable[p]).isNone := by
  rw [portEntryFails, toList_getElem?_fin]

/-- R116: entries 8 to 11 of the table are the lanes. -/
theorem portEntryFails_lane (f : MgmtFrame) (s : State) (l : Fin 4) :
    portEntryFails f s (l.1 + 8) = (laneImage f (l.1 + 8) s.laneTable[l]).isNone := by
  have hnone : s.portTable.toList[l.1 + 8]? = none := List.getElem?_eq_none (by simp)
  rw [portEntryFails, hnone, Nat.add_sub_cancel, toList_getElem?_fin]

/-- R31, R116: which entry of the table holds a field out of its range. -/
theorem portEntryFails_iff (f : MgmtFrame) (s : State) {e : Nat} (he : e < 12) : portEntryFails f s e = true ↔
    (∃ p : Fin 8, p.1 = e ∧ portImage f e s.portTable[p] = none) ∨
      ∃ l : Fin 4, l.1 + 8 = e ∧ laneImage f e s.laneTable[l] = none := by
  by_cases hport : e < 8
  · obtain ⟨p, rfl⟩ : ∃ p : Fin 8, p.1 = e := ⟨⟨e, hport⟩, rfl⟩
    rw [portEntryFails_port, Option.isNone_iff_eq_none]
    constructor
    · exact fun h => .inl ⟨p, rfl, h⟩
    · rintro (⟨q, hq, h⟩ | ⟨l, hl, -⟩)
      · rwa [Fin.ext hq] at h
      · omega
  · obtain ⟨l, rfl⟩ : ∃ l : Fin 4, l.1 + 8 = e := ⟨⟨e - 8, by omega⟩, by simp only; omega⟩
    rw [portEntryFails_lane, Option.isNone_iff_eq_none]
    constructor
    · exact fun h => .inr ⟨l, rfl, h⟩
    · rintro (⟨p, hp, -⟩ | ⟨m, hm, h⟩)
      · omega
      · rwa [show m = l from Fin.ext (by omega)] at h

theorem enableChange_same {old : Vector PortEntry 8} {p : Fin 8} {s : State}
    (h : p ≠ 0 → s.portTable[p].enabled = old[p].enabled) : enableChange old p s = s :=
  if_neg fun hchanged => hchanged.2 (h hchanged.1).symm

theorem enableChange_changed {old : Vector PortEntry 8} {p : Fin 8} {s : State} (hp : p ≠ 0)
    (h : s.portTable[p].enabled ≠ old[p].enabled) :
    enableChange old p s = portLeave p (if s.portTable[p].enabled then .dark else .off) s :=
  if_pos ⟨hp, h.symm⟩

theorem enableChanges_same {old : Vector PortEntry 8} {ps : List (Fin 8)} {s : State}
    (h : ∀ p ∈ ps, p ≠ 0 → s.portTable[p].enabled = old[p].enabled) :
    ps.foldl (fun u p => enableChange old p u) s = s := by
  induction ps with
  | nil => rfl
  | cons p ps ih =>
    rw [List.foldl_cons, enableChange_same (h p (List.mem_cons_self ..))]
    exact ih fun q hq => h q (List.mem_cons_of_mem p hq)

/-- R32: where one port's enabled field changes, that port alone changes its state. -/
theorem enableChanges_one {old : Vector PortEntry 8} {ps : List (Fin 8)} (hnodup : ps.Nodup) {p : Fin 8} (hmem : p ∈ ps)
    {s : State} (hothers : ∀ q, q ≠ p → s.portTable[q].enabled = old[q].enabled) :
    ps.foldl (fun u p => enableChange old p u) s = enableChange old p s := by
  obtain ⟨before, after, rfl⟩ := List.append_of_mem hmem
  obtain ⟨hafter, hbefore⟩ : p ∉ after ∧ p ∉ before := by
    rw [List.nodup_middle, List.nodup_cons, List.mem_append] at hnodup
    exact ⟨fun h => hnodup.1 (.inr h), fun h => hnodup.1 (.inl h)⟩
  rw [List.foldl_append, List.foldl_cons,
    enableChanges_same fun q hq _ => hothers q fun h => hbefore (h ▸ hq)]
  refine enableChanges_same fun q hq _ => ?_
  rw [enableChange_only old p s]
  exact hothers q fun h => hafter (h ▸ hq)

section
variable {f : MgmtFrame} {s : State} (hformat : f.writeFormatOk = true) (hlast : f.lastOffset < 48)
include hformat hlast

theorem writePort_range {e : Nat} (h : (f.touched 4).find? (portEntryFails f s) = some e) :
    writePort f s = replied f { statusReply f .range with offset := some (f.offsetIn 4 e) } s := by
  rw [writePort, writeTable_within hformat hlast]
  simp only [h, refuseAt_eq]

theorem writePort_applies (h : (f.touched 4).find? (portEntryFails f s) = none) :
    writePort f s = replied f (statusReply f .done) (applyPort f s) := by
  rw [writePort, writeTable_within hformat hlast]
  simp only [h, answer_eq_replied]

end

/-- R39: a port's entry to DARK or OFF, with PORT-DOWN from PASSING. -/
theorem portLeave_eq (p : Fin 8) (m : PortMode) (s : State) : portLeave p m s =
    if s.ports[p].mode = .passing then raise .portDown p.1 (setPort p (s.ports[p].cleared m) s)
    else setPort p (s.ports[p].cleared m) s := rfl

/-- R32, R39: the receiver that a change of the enabled field leaves. -/
theorem cleared_enabled (q : Port) (enabled : Bool) :
    q.cleared (if enabled then .dark else .off) = if enabled then darkPort q.rate else offPort q.rate := by
  cases enabled <;> rfl

theorem mem_enabledPorts : ∀ p : Fin 8, p ≠ 0 → p ∈ ([1, 2, 3, 4, 5, 6, 7] : List (Fin 8)) := by decide

section
variable {f : MgmtFrame} {s : State} {p : Fin 8} {e : PortEntry} (htouches : ∀ x, f.touches 4 x = true ↔ x = p.1)
  (himage : portImage f p s.portTable[p] = some e)
include htouches himage

/-- A write that touches the entry of one port only. -/
theorem portTables_one : portTables f s = { s with portTable := s.portTable.set p e } := by
  have hports : (portTables f s).portTable = s.portTable.set p e := vector_ext fun q => by
    rw [portTables_portTable_get]
    by_cases hq : q = p
    · rw [if_pos ((htouches _).2 (congrArg Fin.val hq)), hq, himage, vector_set_get, Option.getD_some]
    · rw [if_neg (fun ht => hq (Fin.ext ((htouches _).1 ht))), vector_set_get_ne _ _ _ _ hq]
  have hlanes : (portTables f s).laneTable = s.laneTable := vector_ext fun l => by
    rw [portTables_laneTable_get, if_neg]
    rw [htouches]
    omega
  rw [← hports]
  conv_rhs => rw [← hlanes]
  rfl

theorem applyPort_one (hp : p ≠ 0) (hchanged : e.enabled ≠ s.portTable[p].enabled) : applyPort f s =
    portLeave p (if e.enabled then .dark else .off) { s with portTable := s.portTable.set p e } := by
  have hentry : (s.portTable.set p e)[p] = e := vector_set_get _ _ _
  rw [applyPort_eq, portTables_one htouches himage,
    enableChanges_one (p := p) (by decide) (mem_enabledPorts p hp), enableChange_changed hp]
  · rw [hentry]
  · rwa [hentry]
  · exact fun q hq => congrArg PortEntry.enabled (vector_set_get_ne _ _ _ _ hq)

end

/-- Settles O39: the lowest entry out of range; the tables written; and the one port whose enabled field changes. -/
theorem portWriteApplies : Obligations.PortWriteApplies := by
  unfold Obligations.PortWriteApplies
  intro f s hexec hformat hlast fails
  have hrow := AccessRow.port.exec hexec
  have hbound : f.lastOffset < 12 * 4 := hlast
  refine ⟨fun e htouch he hlow => ?_, fun hports hlanes => ?_, fun p e hp hfirst hend himage hchanged => ?_⟩
  · have hlt := touches_lt hbound htouch
    have hfind : (f.touched 4).find? (portEntryFails f s) = some e := find?_touched_eq_some.2
      ⟨(portEntryFails_iff f s hlt).2 he, htouch, fun x hx ht =>
        Bool.eq_false_iff.2 (mt (portEntryFails_iff f s (hx.trans hlt)).1 (hlow x hx ht))⟩
    rw [hrow, writePort_range hformat hlast hfind]
    rfl
  · have hfind : (f.touched 4).find? (portEntryFails f s) = none := find?_touched_none hbound fun x ht => by
      refine Bool.eq_false_iff.2 (mt (portEntryFails_iff f s x.2).1 ?_)
      rintro (⟨p, hpx, hnone⟩ | ⟨l, hlx, hnone⟩)
      · rw [← hpx] at ht hnone
        obtain ⟨e, he, -⟩ := hports p ht
        cases hnone.symm.trans he
      · rw [← hlx] at ht hnone
        have hsome := hlanes l ht
        rw [hnone] at hsome
        cases hsome
    have hsame : applyPort f s = portTables f s := by
      rw [applyPort_eq]
      refine enableChanges_same fun p _ hp => ?_
      rw [portTables_portTable_get]
      split
      · next ht =>
        obtain ⟨e, he, henabled⟩ := hports p ht
        rw [he, Option.getD_some]
        exact henabled.resolve_left hp
      · rfl
    refine ⟨(portTables f s).portTable, (portTables f s).laneTable, ?_, fun p => ?_, fun l => ?_⟩
    · rw [hrow, writePort_applies hformat hlast hfind, hsame]
      rfl
    · rw [portTables_portTable_get]
      split
      · next ht =>
        obtain ⟨e, he, -⟩ := hports p ht
        rw [he, Option.getD_some]
      · rfl
    · rw [portTables_laneTable_get]
      split
      · next ht =>
        obtain ⟨e, he⟩ := Option.isSome_iff_exists.1 (hlanes l ht)
        rw [he, Option.getD_some]
      · rfl
  · have htouches (x : Nat) : f.touches 4 x = true ↔ x = p.1 := by
      simp only [MgmtFrame.touches, hfirst, hend, Bool.and_eq_true, decide_eq_true_eq]
      omega
    have hfind : (f.touched 4).find? (portEntryFails f s) = none := find?_touched_eq_none_iff.2 fun x ht => by
      rw [(htouches x).1 ht, portEntryFails_port, himage, Option.isNone_some]
    have happly := applyPort_one htouches himage hp hchanged
    intro q u
    rw [hrow, writePort_applies hformat hlast hfind, happly, portLeave_eq, cleared_enabled]

end Machine
end Sys2Proof

namespace Sys2Proof
namespace Machine

/-! ### Reads of a table, whole or word by word (R170, R171, R186) -/

/-- A row that reads word by word, at its first word or at a later one. -/
theorem onRead_collecting {row : MgmtRow} {f : MgmtFrame} {ws : List Word} {s : State} (hawake : s.resetHeld = false)
    (hmgmt : s.mgmt = .executing f (.collecting ws)) (hrow : rowOf f = some row) (first : MgmtFrame → State → State)
    (next : MgmtFrame → List Word → State → State) :
    onRead row first next s = .next (returnChoose (next f ws s)) := by
  rw [onRead, live_awake hawake, hmgmt]
  exact congrArg (fun u => Host.Outcome.next (returnChoose u)) (if_pos hrow)

theorem exec_mread_eq (s : State) : exec .mread s = onRead .mread readTable readNext s := rfl
theorem exec_mreadCountersClear_eq (s : State) :
    exec .mreadCountersClear s = onRead .mreadCountersClear readClear clearNext s := rfl

/-- R170, R171: a read that passes both checks. -/
theorem readTable_within {f : MgmtFrame} {n width : Nat} (hformat : readFormatOk f false = true)
    (hsize : tableSize f.table = some (n, width)) (hlast : lastRead f < n * width) (s : State) :
    readTable f s = if wordByWord f.table then readNext f [] s else replied f (dataReply f (readWords s f)) s := by
  have hnone : beyond f.offset (lastRead f) (n * width) = none := (beyond_eq_none_iff _ _ _).2 hlast
  simp only [readTable, hformat, hsize, hnone]
  rfl

theorem readWords_eq (s : State) (f : MgmtFrame) :
    readWords s f = (List.range f.count).map fun i => tableWord s f.table (f.offset + i) := by
  rw [readWords, List.range'_eq_map_range, List.map_map]
  rfl

/-- R171, R186: one word of a read, and the reply with the last of them. -/
theorem readNext_eq (f : MgmtFrame) (ws : List Word) (s : State) : readNext f ws s =
    if (ws ++ [tableWord s f.table (f.offset + ws.length)]).length < f.count then
      { s with mgmt := .executing f (.collecting (ws ++ [tableWord s f.table (f.offset + ws.length)])) }
    else replied f (dataReply f (ws ++ [tableWord s f.table (f.offset + ws.length)])) s := by
  unfold readNext
  dsimp only
  split <;> rfl

/-- A word of an entry that the table holds. -/
theorem wordOr_some {ws : List Word} {j : Nat} (h : j < ws.length) : some (wordOr (some ws) j) = ws[j]? := by
  rw [List.getElem?_eq_getElem h, wordOr, entryWord, Option.getD_some, List.getD_eq_getElem?_getD,
    List.getElem?_eq_getElem h, Option.getD_some]

theorem entry_div {w j : Nat} (hj : j < w) (e : Nat) : (e * w + j) / w = e := by
  rw [Nat.add_comm, Nat.mul_comm, Nat.add_mul_div_left _ _ (by omega), Nat.div_eq_of_lt hj, Nat.zero_add]

theorem entry_mod {w j : Nat} (hj : j < w) (e : Nat) : (e * w + j) % w = j := by
  rw [Nat.add_comm, Nat.add_mul_mod_self_right, Nat.mod_eq_of_lt hj]

/-- R13, R171, R191: the words of the tables of settings. -/
theorem tableWord_entries (s : State) :
    (∀ (p : Fin 8) (j : Fin 4), some (tableWord s 1 (p.1 * 4 + j.1)) = s.portTable[p].toWords[j.1]?) ∧
    (∀ (l j : Fin 4), some (tableWord s 1 ((l.1 + 8) * 4 + j.1)) = s.laneTable[l].toWords[j.1]?) ∧
    (∀ (q : Fin 48) (j : Fin 2), some (tableWord s 2 (q.1 * 2 + j.1)) = s.sourceTable[q].toWords[j.1]?) ∧
    (∀ (t : Fin 96) (j : Fin 6), some (tableWord s 3 (t.1 * 6 + j.1)) = s.slotTable[t].toWords[j.1]?) ∧
    (∀ (i : Fin 384) (j : Fin 3), some (tableWord s 4 (i.1 * 3 + j.1)) = s.pathTable[i].toWords[j.1]?) ∧
    ∀ k : Fin 13, tableWord s 8 k.1 = if s.noticeMask[k] then 1 else 0 := by
  refine ⟨fun p j => ?_, fun l j => ?_, fun q j => ?_, fun t j => ?_, fun i j => ?_, fun k => ?_⟩
  · rw [tableWord, entry_div j.2, entry_mod j.2, if_pos p.2, toList_getElem?_fin, Option.map_some]
    exact wordOr_some j.2
  · rw [tableWord, entry_div j.2, entry_mod j.2, if_neg (by omega), Nat.add_sub_cancel, toList_getElem?_fin,
      Option.map_some]
    exact wordOr_some j.2
  · rw [tableWord, entry_div j.2, entry_mod j.2, toList_getElem?_fin, Option.map_some]
    exact wordOr_some j.2
  · rw [tableWord, entry_div j.2, entry_mod j.2, toList_getElem?_fin, Option.map_some]
    exact wordOr_some j.2
  · rw [tableWord, entry_div j.2, entry_mod j.2, toList_getElem?_fin, Option.map_some]
    exact wordOr_some j.2
  · rw [tableWord, toList_getElem?_fin, Option.getD_some]
    cases s.noticeMask[k] <;> rfl

/-- Settles O43: the whole reads, the reads word by word at either phase, and the words of the entries. -/
theorem readRepliesWords : Obligations.ReadRepliesWords := by
  unfold Obligations.ReadRepliesWords
  refine ⟨fun f size s hexec hlength hflag hlow hhigh hmem hlast => ?_,
    fun f ws size s hawake hmgmt hrow hlength hflag hlow hhigh hmem hlast => ?_, tableWord_entries⟩
  · have hformat := (readFormatOk_iff f false).2 ⟨hlength, hlow, hhigh, .inr hflag⟩
    have hwhole {n width : Nat} (hsize : tableSize f.table = some (n, width)) (hat : f.offset + f.count ≤ n * width)
        (hword : wordByWord f.table = false) : readTable f s = replied f (dataReply f (readWords s f)) s := by
      rw [readTable_within hformat hsize (by unfold lastRead; omega), hword]
      rfl
    have hread : readTable f s = replied f (dataReply f (readWords s f)) s := by
      simp only [List.mem_cons, Prod.mk.injEq, List.not_mem_nil, or_false] at hmem
      rcases hmem with ⟨ht, rfl⟩ | ⟨ht, rfl⟩ | ⟨ht, rfl⟩ | ⟨ht, rfl⟩ | ⟨ht, rfl⟩
      · exact hwhole (n := 12) (width := 4) (by rw [ht]; rfl) hlast (by rw [ht]; rfl)
      · exact hwhole (n := 48) (width := 2) (by rw [ht]; rfl) hlast (by rw [ht]; rfl)
      · exact hwhole (n := 96) (width := 6) (by rw [ht]; rfl) hlast (by rw [ht]; rfl)
      · exact hwhole (n := 384) (width := 3) (by rw [ht]; rfl) hlast (by rw [ht]; rfl)
      · exact hwhole (n := 13) (width := 1) (by rw [ht]; rfl) hlast (by rw [ht]; rfl)
    rw [AccessRow.read.exec hexec, hread, ← readWords_eq]
    rfl
  · intro all
    have hnext : exec .mread s = .next (returnChoose (readNext f ws s)) := by
      rcases hmgmt with ⟨rfl, htaken⟩ | hcollecting
      · have hformat := (readFormatOk_iff f false).2 ⟨hlength, hlow, hhigh, .inr hflag⟩
        have hfirst {n width : Nat} (hsize : tableSize f.table = some (n, width))
            (hat : f.offset + f.count ≤ n * width) (hword : wordByWord f.table = true) :
            readTable f s = readNext f [] s := by
          rw [readTable_within hformat hsize (by unfold lastRead; omega), if_pos hword]
        have hread : readTable f s = readNext f [] s := by
          simp only [List.mem_cons, Prod.mk.injEq, List.not_mem_nil, or_false] at hmem
          rcases hmem with ⟨ht, rfl⟩ | ⟨ht, rfl⟩
          · exact hfirst (n := 109) (width := 12) (by rw [ht]; rfl) hlast (by rw [ht]; rfl)
          · exact hfirst (n := 157) (width := 9) (by rw [ht]; rfl) hlast (by rw [ht]; rfl)
        rw [AccessRow.read.exec ⟨hawake, htaken, hrow⟩, hread]
      · rw [exec_mread_eq, onRead_collecting hawake hcollecting hrow]
    rw [hnext, readNext_eq]
    rfl

/-! ### COUNTERS read with clear (R172, R186) -/

theorem clearCounter_eq (off : Nat) (s : State) :
    clearCounter off s = { s with counters := (clearCounter off s).counters } := by
  unfold clearCounter
  cases counterAt off <;> rfl

theorem clearCounter_read (off : Nat) (s : State) (c : CounterId) :
    (clearCounter off s).counters.read c = if counterAt off = some c then 0 else s.counters.read c := by
  unfold clearCounter
  cases hat : counterAt off with
  | none => rw [if_neg (fun h => by cases h)]
  | some i =>
    by_cases hc : i = c
    · rw [if_pos (by rw [hc]), hc]
      exact Counters.read_write _ _ _
    · rw [if_neg (fun h => hc (Option.some.inj h))]
      exact Counters.read_write_ne _ (Ne.symm hc) _

theorem counterWord_eq (s : State) (off : Nat) :
    counterWord s off = ((counterAt off).map s.counters.read).getD 0 := by
  unfold counterWord
  cases counterAt off <;> rfl

theorem exec_mreadCountersClear_next {f : MgmtFrame} {ws : List Word} {s : State} (hawake : s.resetHeld = false)
    (hmgmt : (ws = [] ∧ s.mgmt = .executing f .taken) ∨ s.mgmt = .executing f (.collecting ws))
    (hrow : rowOf f = some .mreadCountersClear) (hlow : 1 ≤ f.count) (hhigh : f.count ≤ 28)
    (hlast : f.offset + f.count ≤ 1308) :
    exec .mreadCountersClear s = .next (returnChoose (clearNext f ws s)) := by
  rcases hmgmt with ⟨rfl, htaken⟩ | hcollecting
  · obtain ⟨hlength, -, -⟩ := (readRow_iff hrow (.inr (.inr rfl))).2.1 rfl
    have hformat := (readFormatOk_iff f true).2 ⟨hlength, hlow, hhigh, .inl rfl⟩
    have hnone : beyond f.offset (lastRead f) 1308 = none := (beyond_eq_none_iff _ _ _).2 (by unfold lastRead; omega)
    rw [AccessRow.readClear.exec ⟨hawake, htaken, hrow⟩, readClear, if_pos hformat, hnone]
  · rw [exec_mreadCountersClear_eq, onRead_collecting hawake hcollecting hrow]

/-- Settles O45: the next word, and the counter that its clear sets to 0. -/
theorem countersReadClears : Obligations.CountersReadClears := by
  unfold Obligations.CountersReadClears
  intro f ws s hawake hmgmt hrow hlow hhigh hlast at? all
  obtain ⟨-, htable, -⟩ := (readRow_iff hrow (.inr (.inr rfl))).2.1 rfl
  have hword : tableWord s f.table (f.offset + ws.length) = (at?.map s.counters.read).getD 0 := by
    rw [htable]
    exact counterWord_eq s _
  refine ⟨(clearNext f ws s).counters, ?_, fun c => clearCounter_read _ (readNext f ws s) c⟩
  rw [exec_mreadCountersClear_next hawake hmgmt hrow hlow hhigh hlast]
  conv_lhs => rw [clearNext, clearCounter_eq, ← clearNext]
  simp only [readNext, hword]
  rfl

/-! ### The other tables' writes (R166, R191) -/

theorem writeOther_mask {f : MgmtFrame} {s : State} (hformat : f.writeFormatOk = true) (htable : f.table = 8)
    (hlast : f.lastOffset < 13) : writeOther f s = replied f (statusReply f .done) (applyMask f s) := by
  have hwrite := writeTable_within hformat hlast (fun f s => answer f .done (applyMask f s)) s
  rw [writeOther, hformat, htable]
  exact hwrite

theorem writeOther_readOnly {f : MgmtFrame} {s : State} (hformat : f.writeFormatOk = true)
    (htable : f.table = 6 ∨ f.table = 7) :
    writeOther f s = replied f { statusReply f .range with offset := some f.offset } s := by
  unfold writeOther
  rw [hformat]
  rcases htable with h | h <;> rw [h] <;> rfl

theorem applyMask_get (f : MgmtFrame) (s : State) (k : Fin 13) :
    (applyMask f s).noticeMask[k] = ((f.supplied k.1).map fun w => flag w 0).getD s.noticeMask[k] :=
  mapEntries_getElem _ s.noticeMask k.1 k.2

/-- Settles O46: NOTICE-MASK entry by entry, and the two tables that no write changes. -/
theorem maskWriteApplies : Obligations.MaskWriteApplies := by
  unfold Obligations.MaskWriteApplies
  intro f s hexec hformat
  have hrow := AccessRow.other.exec hexec
  refine ⟨fun htable hlast => ⟨(applyMask f s).noticeMask, ?_, fun k => ?_⟩, fun htable => ?_⟩
  · rw [hrow, writeOther_mask hformat htable hlast]
    rfl
  · rw [applyMask_get]
    cases f.supplied k.1 with
    | none => rfl
    | some w => exact flag_eq_getLsbD w 0
  · rw [hrow, writeOther_readOnly hformat htable]

end Machine
end Sys2Proof

namespace Sys2Proof
namespace Machine

/-! ### The words of COUNTERS (R185) -/

theorem toFin_val {n : Nat} (i : Fin n) : toFin n i.1 = some i := toFin_eq_some_iff.2 rfl

theorem toFin_eq_none {n m : Nat} (h : n ≤ m) : toFin n m = none := dif_neg h.not_gt

theorem counterAt_entry {e j : Nat} (hj : j < 12) : counterAt (e * 12 + j) = counterOf e j := by
  rw [counterAt, entry_div hj, entry_mod hj]

theorem counterOf_port (p : Fin 8) (j : Nat) : counterOf p.1 j = (PortCtr.all.map (.port p))[j]? := by
  simp only [counterOf, toFin_val, List.getElem?_map]

theorem counterOf_lane (l : Fin 4) (j : Nat) : counterOf (8 + l.1) j = (LaneCtr.all.map (.lane l))[j]? := by
  have hport : toFin 8 (8 + l.1) = none := toFin_eq_none (by omega)
  simp only [counterOf, hport, Nat.add_sub_cancel_left, toFin_val, List.getElem?_map]

theorem counterOf_slot (t : Fin 96) (j : Nat) : counterOf (12 + t.1) j = (SlotCtr.all.map (.slot t))[j]? := by
  have hport : toFin 8 (12 + t.1) = none := toFin_eq_none (by omega)
  have hlane : toFin 4 (12 + t.1 - 8) = none := toFin_eq_none (by omega)
  simp only [counterOf, hport, hlane, Nat.add_sub_cancel_left, toFin_val, List.getElem?_map]

theorem counterOf_global (j : Nat) : counterOf 108 j = (GlobalCtr.all.map .global)[j]? := by
  rw [List.getElem?_map]
  rfl

/-- R185: an entry whose counters are the given ones. -/
theorem counter_group {e : Nat} {ids : List CounterId} (h : ∀ j, counterOf e j = ids[j]?) (s : State) {j : Nat}
    (hj : j < 12) : counterAt (e * 12 + j) = ids[j]? ∧
      tableWord s 6 (e * 12 + j) = ((ids[j]?).map s.counters.read).getD 0 := by
  have hat : counterAt (e * 12 + j) = ids[j]? := (counterAt_entry hj).trans (h j)
  refine ⟨hat, ?_⟩
  rw [← hat]
  exact counterWord_eq s _

/-! ### The words of STATUS (R200) -/

section
variable (s : State) {j : Nat} (hj : j < 9)
include hj

theorem statusWord_device : tableWord s 7 (0 * 9 + j) = deviceWord s j := by
  rw [tableWord, statusWordAt, entry_div hj, entry_mod hj]
  rfl

theorem statusWord_port (p : Fin 8) : tableWord s 7 ((1 + p.1) * 9 + j) = portWord s.ports[p] j := by
  have hport : toFin 8 (p.1 + 1 - 1) = some p := toFin_val p
  rw [tableWord, statusWordAt, entry_div hj, entry_mod hj, show 1 + p.1 = p.1 + 1 by omega, hport]
  rfl

theorem statusWord_source (q : Fin 48) : tableWord s 7 ((9 + q.1) * 9 + j) = sourceWord s.latches[q] j := by
  have hport : toFin 8 (8 + q.1 + 1 - 1) = none := toFin_eq_none (by omega)
  have hsource : toFin 48 (8 + q.1 + 1 - 9) = some q := toFin_eq_some_iff.2 (by omega)
  rw [tableWord, statusWordAt, entry_div hj, entry_mod hj, show 9 + q.1 = 8 + q.1 + 1 by omega, hport, hsource]
  rfl

theorem statusWord_lane (l : Fin 4) : tableWord s 7 ((57 + l.1) * 9 + j) = laneWord s.lanes[l] j := by
  have hport : toFin 8 (56 + l.1 + 1 - 1) = none := toFin_eq_none (by omega)
  have hsource : toFin 48 (56 + l.1 + 1 - 9) = none := toFin_eq_none (by omega)
  have hlane : toFin 4 (56 + l.1 + 1 - 57) = some l := toFin_eq_some_iff.2 (by omega)
  rw [tableWord, statusWordAt, entry_div hj, entry_mod hj, show 57 + l.1 = 56 + l.1 + 1 by omega, hport, hsource, hlane]
  rfl

theorem statusWord_slot (t : Fin 96) :
    tableWord s 7 ((61 + t.1) * 9 + j) = slotWord s.channels[t] s.outstanding[t] s.gain[t] j := by
  have hport : toFin 8 (60 + t.1 + 1 - 1) = none := toFin_eq_none (by omega)
  have hsource : toFin 48 (60 + t.1 + 1 - 9) = none := toFin_eq_none (by omega)
  have hlane : toFin 4 (60 + t.1 + 1 - 57) = none := toFin_eq_none (by omega)
  have hslot : toFin 96 (60 + t.1 + 1 - 61) = some t := toFin_eq_some_iff.2 (by omega)
  rw [tableWord, statusWordAt, entry_div hj, entry_mod hj, show 61 + t.1 = 60 + t.1 + 1 by omega, hport, hsource,
    hlane, hslot]
  rfl

end

/-- A field of one bit, at its place. -/
theorem num_mul (b : Bool) (n : Nat) : num b * n = if b then n else 0 := by
  cases b <;> simp [num]

theorem portWord_eq (q : Port) (j : Nat) : portWord q j =
    [mkWord (q.mode.code * 16384 + num q.stable * 8192 + q.stableRun * 256 + q.run * 16 + q.linkErrors),
      mkWord q.rate].getD j 0 := by
  match j with
  | 0 | 1 | _ + 2 => rfl

theorem sourceWord_eq (q : Latch) (j : Nat) :
    sourceWord q j = [q.value, mkWord (num q.fresh * 32768 + q.age)].getD j 0 := by
  match j with
  | 0 | 1 | _ + 2 => rfl

theorem laneWord_eq (k : Lane) (j : Nat) : laneWord k j =
    [mkWord (num k.up * 32768 + num k.tx.isSome * 16384 + k.linkErrors * 256 + k.divisorInForce),
      mkWord (k.timed.length * 256 + k.untimed.length)].getD j 0 := by
  match j with
  | 0 | 1 | _ + 2 => rfl

/-- R200: the kind of the record's frame as a STATUS word writes it, 0 for no record. -/
def recordCode (r : Option OutRecord) : Nat := (r.map fun x => x.kind.code).getD 0

theorem recordCode_eq (r : Option OutRecord) : recordCode r = (match r.map (·.kind) with
    | none => 0
    | some .correct => 1
    | some .probe => 2
    | some .halt => 3) := by
  cases r with
  | none => rfl
  | some x => cases hkind : x.kind <;> simp [recordCode, hkind, SentKind.code]

theorem slotWord_eq (c : Channel) (r : Option OutRecord) (g : Gain) (j : Nat) : slotWord c r g j =
    [mkWord (c.state.code * 8192 + c.miss * 2048 + HaltCause.code c.cause * 512 + num r.isSome * 256 +
        recordCode r * 64 + g.quietRun),
      (r.map (·.seq)).getD 0, mkWord (num g.last.isSome * 32768 + g.mu), g.last.getD 0].getD j 0 := by
  match j with
  | 0 | 1 => cases r <;> simp [slotWord, recordCode]
  | 2 | 3 | _ + 4 => rfl

theorem deviceWord_eq (s : State) (j : Nat) : deviceWord s j =
    [mkWord (num s.running * 32768 + num (s.pass.stage != .idle) * 16384 + s.pass.lastOutcome.code * 4096 +
        num s.parityFlags.e * 1024 + num s.parityFlags.o * 512 + num s.parityFlags.h * 256 + s.period),
      s.seq, s.pass.seq, mkWord (s.pathPending.length * 256 + s.pass.walkPos),
      mkWord (num s.engine.isSome * 32768 + (s.engine.map fun v => v.slot.1).getD 0 * 256 + s.reports.length),
      (s.engine.map (·.seq)).getD 0,
      mkWord (s.mgmt.code * 16384 + s.dump.state.code * 4096 + s.mgmtQueue.length),
      mkWord (num (s.dump.state != .idle) * s.dump.next.1), mkWord s.notices.length].getD j 0 := by
  match j with
  | 0 | 1 | 2 | 3 | 6 | 8 | _ + 9 => rfl
  | 4 | 5 => cases hengine : s.engine <;> simp [deviceWord, hengine, num]
  | 7 => cases hdump : s.dump.state <;> simp [deviceWord, hdump, num, mkWord]

/-- Settles O44: each entry's counters, and the words of each kind of STATUS entry. -/
theorem statusAndCounterWords : Obligations.StatusAndCounterWords := by
  unfold Obligations.StatusAndCounterWords
  intro s group words yes w
  have hyes (b : Bool) (n : Nat) : yes b n = num b * n := (num_mul b n).symm
  have hw (n : Nat) : mkWord n = w n := rfl
  clear_value yes w
  refine ⟨fun p j hj => counter_group (counterOf_port p) s hj, fun l j hj => counter_group (counterOf_lane l) s hj,
    fun t j hj => counter_group (counterOf_slot t) s hj, fun j hj => counter_group counterOf_global s hj,
    fun j hj => ?_, fun p => ?_, fun n => ?_, fun l => ?_, fun t => ?_⟩
  · rw [statusWord_device s hj, deviceWord_eq]
    have hflags : num s.running * 32768 + num (s.pass.stage != .idle) * 16384 + s.pass.lastOutcome.code * 4096 +
        num s.parityFlags.e * 1024 + num s.parityFlags.o * 512 + num s.parityFlags.h * 256 + s.period =
          yes s.running 32768 + yes (s.pass.stage != .idle) 16384 + 4096 * s.pass.lastOutcome.code +
            yes s.parityFlags.e 1024 + yes s.parityFlags.o 512 + yes s.parityFlags.h 256 + s.period := by
      rw [hyes, hyes, hyes, hyes, hyes, Nat.mul_comm 4096]
    have hwalk : s.pathPending.length * 256 + s.pass.walkPos = 256 * s.pathPending.length + s.pass.walkPos := by
      rw [Nat.mul_comm 256]
    have hengine : num s.engine.isSome * 32768 + (s.engine.map fun v => v.slot.1).getD 0 * 256 + s.reports.length =
        yes s.engine.isSome 32768 + 256 * ((s.engine.map fun v => v.slot.1).getD 0) + s.reports.length := by
      rw [hyes, Nat.mul_comm 256]
    have hmgmt : s.mgmt.code * 16384 + s.dump.state.code * 4096 + s.mgmtQueue.length =
        16384 * s.mgmt.code + 4096 * s.dump.state.code + s.mgmtQueue.length := by
      rw [Nat.mul_comm 16384, Nat.mul_comm 4096]
    rw [hflags, hwalk, hengine, hmgmt, ← hyes]
    simp only [hw]
    rfl
  · intro q j hj
    have hword : q.mode.code * 16384 + num q.stable * 8192 + q.stableRun * 256 + q.run * 16 + q.linkErrors =
        16384 * q.mode.code + yes q.stable 8192 + 256 * q.stableRun + 16 * q.run + q.linkErrors := by
      rw [hyes, Nat.mul_comm 16384, Nat.mul_comm 256, Nat.mul_comm 16]
    rw [statusWord_port s hj, portWord_eq, hword, hw, hw]
    rfl
  · intro j hj
    rw [statusWord_source s hj, sourceWord_eq, ← hyes, hw]
  · intro k j hj
    have hword : num k.up * 32768 + num k.tx.isSome * 16384 + k.linkErrors * 256 + k.divisorInForce =
        yes k.up 32768 + yes k.tx.isSome 16384 + 256 * k.linkErrors + k.divisorInForce := by
      rw [hyes, hyes, Nat.mul_comm 256]
    have hqueues : k.timed.length * 256 + k.untimed.length = 256 * k.timed.length + k.untimed.length := by
      rw [Nat.mul_comm 256]
    rw [statusWord_lane s hj, laneWord_eq, hword, hqueues, hw, hw]
  · intro c j hj
    have hword : c.state.code * 8192 + c.miss * 2048 + HaltCause.code c.cause * 512 +
        num s.outstanding[t].isSome * 256 + recordCode s.outstanding[t] * 64 + s.gain[t].quietRun =
          8192 * c.state.code + 2048 * c.miss + 512 * HaltCause.code c.cause + yes s.outstanding[t].isSome 256 +
            64 * recordCode s.outstanding[t] + s.gain[t].quietRun := by
      rw [hyes, Nat.mul_comm 8192, Nat.mul_comm 2048, Nat.mul_comm 512 (HaltCause.code _), Nat.mul_comm 64]
    rw [statusWord_slot s hj, slotWord_eq, hword, ← hyes, recordCode_eq, hw, hw]
    rfl

end Machine
end Sys2Proof

namespace Sys2Proof
namespace Machine

/-! ### LANE-RESET and PORT-RESET (R39, R122) -/

/-- Settles O50: the lane's state, and the port's. -/
theorem laneAndPortReset : Obligations.LaneAndPortReset := by
  unfold Obligations.LaneAndPortReset
  refine fun f s => ⟨fun l hexec harg => ⟨laneEmpty l s, laneEmpty_emptied l s, ?_⟩, fun p hexec harg => ?_⟩
  · rw [exec_laneReset_eq, onFrame_executing hexec, withArg_inRange harg]
    rfl
  · intro u
    have hreset : actPortReset p f s =
        replied f (statusReply f .done) (if s.ports[p].mode = .off then s else portLeave p .dark s) := rfl
    rw [exec_portReset_eq, onFrame_executing hexec, withArg_inRange harg, hreset, portLeave_eq]
    cases hmode : s.ports[p].mode <;> rfl

/-! ### The dump (R173, R176 to R180) -/

section
variable {f : MgmtFrame} {a b : Fin 512} (hfirst : f.arg1 = some a.1) (hlast : f.arg2 = some b.1) (s : State)
include hfirst hlast

/-- R173, R176: DUMP with both its arguments in range. -/
theorem actDump_eq : actDump f s = if b < a then replied f (statusReply f .range) s
    else if s.dump.state = .idle then replied f { statusReply f .done with startsDump := true }
      { s with dump := { s.dump with state := .reading, next := a, last := b } }
    else replied f (statusReply f .busy) s := by
  simp only [actDump, hfirst, hlast, toFin_val]
  rfl

end

/-- R178: the frame of a block's words. -/
def blockFrame (blk last : Fin 512) (words : List StoredWord) : DumpFrame :=
  ⟨blk, words.any (fun w => !w.good), decide (blk = last), false, words.map (·.value)⟩

theorem deliverDump_eq (blk : Fin 512) (words : List StoredWord) (s : State) : deliverDump blk words s =
    if s.dump.aborting then placeAborted s
    else if s.ret.dumpPlace.isNone then placeDumpFrame (blockFrame blk s.dump.last words) s
    else { s with dump := { s.dump with state := .holding, held := some (blockFrame blk s.dump.last words) } } := by
  have hany : (!words.all (·.good)) = words.any (fun w => !w.good) := List.not_all_eq_any_not ..
  unfold deliverDump blockFrame
  rw [← hany]

/-- R177: the LAST frame takes the dump place. -/
theorem placeDumpFrame_last {d : DumpFrame} (h : d.last = true) (s : State) : placeDumpFrame d s = { s with
    ret := { s.ret with dumpPlace := some d }
    dump := { s.dump with state := .finishing, held := none } } := by
  rw [placeDumpFrame_eq, if_pos h, dumpPlaced, if_pos h]

/-- R177: another frame takes the dump place, and the next block's read is requested. -/
theorem placeDumpFrame_more {d : DumpFrame} (h : d.last = false) (s : State) : placeDumpFrame d s =
    request (if (s.dump.next + 1).1 % 2 = 0 then .e else .o) (.dumpRead (s.dump.next + 1)) { s with
      ret := { s.ret with dumpPlace := some d }
      dump := { s.dump with state := .reading, next := s.dump.next + 1, held := none } } := by
  have hnot : ¬ d.last = true := by rw [h]; exact Bool.false_ne_true
  rw [placeDumpFrame_eq, if_neg hnot, dumpPlaced, if_neg hnot, requestDumpRead, bankOf_eq]

/-- R179: the end of the LAST frame of a dump. -/
theorem returnTransmitEnd_last {d : DumpFrame} {s : State} (hline : s.ret.line = some (.dump d)) (hlast : d.last = true)
    (hstate : s.dump.state = .finishing) (hplace : s.ret.dumpPlace = none) : returnTransmitEnd s = raise .dumpDone 0
      { s with ret := { s.ret with line := none }, dump := { s.dump with state := .idle } } := by
  have hends : endsDump (.dump d) s = true := by
    simp only [endsDump, hlast, hstate, hplace]
    rfl
  simp only [returnTransmitEnd, hline, hends, if_true]

/-- Settles O51: the start of a dump, a completed block read in each case, and the end of the LAST frame. -/
theorem dumpStartsAndFinishes : Obligations.DumpStartsAndFinishes := by
  unfold Obligations.DumpStartsAndFinishes
  refine ⟨fun f a b s hexec hfirst hlast => ?_, fun b blk words s hawake hbusy => ?_,
    fun d s hawake hline hlast hstate hplace =>
      exec_of_effect hawake (returnTransmitEnd_last hline hlast hstate hplace)⟩
  · rw [exec_dump_eq, onFrame_executing hexec, actDump_eq hfirst hlast]
    refine ⟨fun hle hidle => ?_, fun hle hbusy => ?_, fun hlt => ?_⟩
    · rw [if_neg (not_lt.2 hle), if_pos hidle]
    · rw [if_neg (not_lt.2 hle), if_neg hbusy]
    · rw [if_pos hlt]
  · intro t d
    have hret : t.ret = s.ret := by simp only [t, checkParity_ret]; rw [takeNext_only b s]
    have hdump : t.dump = s.dump := by simp only [t, checkParity_dump]; rw [takeNext_only b s]
    have hdeliver : tapOperationComplete b s = deliverDump blk words t := by
      refine (tapOperationComplete_busy hbusy).trans ?_
      rw [show t = checkParity (ParityBank.ofBank b) words (takeNext b s) by rw [ParityBank.ofBank_eq]]
      rfl
    rw [deliverDump_eq, hret, hdump] at hdeliver
    refine ⟨fun haborting hplace hlast => exec_of_effect hawake (hdeliver.trans ?_),
      fun haborting hplace hmore => exec_of_effect hawake (hdeliver.trans ?_),
      fun haborting hfull => exec_of_effect hawake (hdeliver.trans ?_),
      fun haborting => exec_of_effect hawake (hdeliver.trans ?_)⟩
    · rw [haborting, if_neg Bool.false_ne_true, hplace, Option.isNone_none, if_pos rfl,
        placeDumpFrame_last (decide_eq_true hlast), hret, hdump]
      rfl
    · rw [haborting, if_neg Bool.false_ne_true, hplace, Option.isNone_none, if_pos rfl,
        placeDumpFrame_more (decide_eq_false hmore), hret, hdump]
      rfl
    · rw [haborting, if_neg Bool.false_ne_true,
        if_neg (by rw [Option.isNone_iff_eq_none]; exact Option.isSome_iff_ne_none.1 hfull), ← hret]
      rfl
    · rw [haborting, if_pos rfl, placeAborted, abortedFrame, hret, hdump]

/-! ### The words of the frames that the part sends (R194 to R198) -/

theorem mkWord_num (b : Bool) : mkWord (num b) = if b then 1 else 0 := by
  cases b <;> rfl

/-- R195: the bits of a word into the CRC, from the highest to the lowest. -/
theorem crcBits_eq_foldl (x : Word) (n : Nat) (reg : Word) : crcBits x n reg =
    (List.range n).foldl (fun (r : Word) i => if x.getLsbD (n - 1 - i) = r.getLsbD 15 then r <<< 1
      else (r <<< 1) ^^^ 4129) reg := by
  induction n generalizing reg with
  | zero => rfl
  | succ n ih =>
    have hbit : crcBit reg (x.getLsbD n) =
        if x.getLsbD n = reg.getLsbD 15 then reg <<< 1 else (reg <<< 1) ^^^ 4129 := by
      rw [crcBit, BitVec.msb_eq_getLsbD_last]
      by_cases h : x.getLsbD n = reg.getLsbD 15
      · rw [if_pos h, if_pos (beq_iff_eq.2 h.symm)]
      · rw [if_neg h, if_neg (mt beq_iff_eq.1 (Ne.symm h))]
    rw [crcBits, ih, hbit, List.range_succ_eq_map, List.foldl_cons, List.foldl_map]
    simp only [Nat.succ_eq_add_one, Nat.sub_sub, Nat.add_comm 1, Nat.sub_zero, Nat.add_sub_cancel]

/-- Settles O53: each frame's header, payload and CRC; and the CRC word by word. -/
theorem sentFrameWords : Obligations.SentFrameWords := by
  unfold Obligations.SentFrameWords
  intro w yes sent
  have hyes (b : Bool) (n : Nat) : yes b n = num b * n := (num_mul b n).symm
  have hw (n : Nat) : mkWord n = w n := rfl
  have hsent (ws : List Word) : withCrc ws = sent ws := rfl
  refine ⟨fun t q v c aged => ⟨?_, ?_, ?_⟩, fun r => ?_, fun n number hmem => ?_, fun d => ?_, rfl, fun ws x => ?_⟩
  · rw [TimedEntry.frame, LaneFrame.words, hsent, header, hw, mkWord_num, Nat.mul_comm t.1]
  · rw [TimedEntry.frame, LaneFrame.words, hsent, header, hw, Nat.mul_comm t.1]
  · rw [HaltEntry.frame, LaneFrame.words, hsent, header, hw, Nat.mul_comm t.1]
  · intro code
    have hcode : code = r.status.code := by cases h : r.status <;> simp only [code, h, Status.code]
    have hlength : r.payload.length = 2 + (r.offset.toList.length + r.data.length) := by
      simp only [Reply.payload, List.length_cons, List.length_append, List.length_map]
      omega
    rw [ReturnFrame.words, hsent, header, hlength, Reply.payload, Reply.statusWord, hcode, hyes, hyes,
      Nat.mul_comm 256]
    rfl
  · have hnumber : n.kind.number.1 = number := by
      simp only [List.mem_cons, Prod.mk.injEq, List.not_mem_nil, or_false] at hmem
      rcases hmem with ⟨h, rfl⟩ | ⟨h, rfl⟩ | ⟨h, rfl⟩ | ⟨h, rfl⟩ | ⟨h, rfl⟩ | ⟨h, rfl⟩ | ⟨h, rfl⟩ | ⟨h, rfl⟩ |
        ⟨h, rfl⟩ | ⟨h, rfl⟩ | ⟨h, rfl⟩ | ⟨h, rfl⟩ | ⟨h, rfl⟩ <;> rw [h] <;> rfl
    rw [ReturnFrame.words, hsent, header, hnumber, hw, hw, hw, Nat.mul_comm number]
  · rw [ReturnFrame.words, hsent, hw, hyes, hyes, hyes]
  · rw [crc16, List.foldl_append]
    exact crcBits_eq_foldl x 16 _

end Machine
end Sys2Proof

namespace Sys2Proof
namespace Machine

/-! ### The moves of the return arbiter (R165, R177, R182, R183) -/

section
variable {s : State}

theorem returnTake_busy (h : s.ret.line.isSome = true) : returnTake s = s := by
  obtain ⟨x, hx⟩ := Option.isSome_iff_exists.1 h
  simp only [returnTake, hx]

section
variable (hline : s.ret.line = none)
include hline

theorem returnTake_reply {r : Reply} (hreply : s.ret.replyPlace = some r) (h : ∀ q, s.mgmt ≠ .holding q) :
    returnTake s = { s with ret := { s.ret with line := some (.reply r), replyPlace := none } } := by
  unfold returnTake
  simp only [hline, hreply]
  cases hmgmt : s.mgmt with
  | holding q => exact absurd hmgmt (h q)
  | idle => rfl
  | executing f p => rfl

theorem returnTake_held {r q : Reply} (hreply : s.ret.replyPlace = some r) (h : s.mgmt = .holding q) :
    returnTake s =
      placeReply q { s with ret := { s.ret with line := some (.reply r), replyPlace := none } } := by
  simp only [returnTake, hline, hreply, h]

variable (hreply : s.ret.replyPlace = none)
include hreply

theorem returnTake_notice {n : Notice} {rest : List Notice} (h : s.notices = n :: rest) :
    returnTake s = { s with ret := { s.ret with line := some (.notice n) }, notices := rest } := by
  simp only [returnTake, hline, hreply, h]

theorem returnTake_dump {d : DumpFrame} (hnotices : s.notices = []) (hplace : s.ret.dumpPlace = some d)
    (hheld : s.dump.held = none) :
    returnTake s = { s with ret := { s.ret with line := some (.dump d), dumpPlace := none } } := by
  simp only [returnTake, hline, hreply, hnotices, hplace, hheld]

theorem returnTake_heldDump {d h : DumpFrame} (hnotices : s.notices = []) (hplace : s.ret.dumpPlace = some d)
    (hheld : s.dump.held = some h) : returnTake s =
      placeDumpFrame h { s with ret := { s.ret with line := some (.dump d), dumpPlace := none } } := by
  simp only [returnTake, hline, hreply, hnotices, hplace, hheld]

theorem returnTake_nothing (hnotices : s.notices = []) (hplace : s.ret.dumpPlace = none) : returnTake s = s := by
  simp only [returnTake, hline, hreply, hnotices, hplace]

end

theorem placeReady_none (h : readyReply s.mgmt = none) : placeReady s = s := by
  simp only [placeReady, h]

theorem placeReady_full (h : s.ret.replyPlace.isSome = true) : placeReady s = s := by
  unfold placeReady
  cases readyReply s.mgmt with
  | none => rfl
  | some r => exact if_neg (by simp [Option.isSome_iff_ne_none.1 h])

theorem placeReady_quiet (hnotices : s.notices = []) (hplace : s.ret.dumpPlace = none) : placeReady s = s := by
  unfold placeReady
  cases readyReply s.mgmt with
  | none => rfl
  | some r => exact if_neg (by simp [hnotices, hplace])

theorem placeReady_some {r : Reply} (hready : readyReply s.mgmt = some r) (hreply : s.ret.replyPlace = none)
    (hwaits : s.notices ≠ [] ∨ s.ret.dumpPlace.isSome = true) : placeReady s = placeReply r s := by
  simp only [placeReady, hready]
  refine if_pos ?_
  rw [hreply, Option.isNone_none, Bool.true_and, Bool.or_eq_true]
  exact hwaits.imp_left fun h => by simpa using h

end

/-! ### The arbiter and a RESTART in execution (R174) -/

/-- R174: what the arbiter moves is not what RESTART waits for. -/
theorem returnTake_settled (s : State) : RestartSettled (returnTake s) ↔ RestartSettled s := by
  have honly := returnTake_only s
  have haborting : (returnTake s).dump.aborting = s.dump.aborting := by
    unfold returnTake
    split
    · rfl
    · dsimp only
      split
      · rw [placeReply_dump]
      · rfl
      · rfl
    · rfl
    · dsimp only
      split
      · rw [placeDumpFrame_eq]
        split
        · next hlast => rw [dumpPlaced, if_pos hlast]
        · next hlast => rw [requestDumpRead_dump, dumpPlaced, if_neg hlast]
      · rfl
    · rfl
  unfold RestartSettled
  rw [haborting, honly]

/-- The Management Unit set to m. -/
def setMgmt (m : Mgmt) (s : State) : State := { s with mgmt := m }

/-- The Management Unit set to m and the return direction to x. -/
def withReturn (m : Mgmt) (x : Return) (s : State) : State := { s with mgmt := m, ret := x }

/-- A block read is requested alike whatever the Management Unit and the return direction hold. -/
theorem requestDumpRead_withReturn (m : Mgmt) (x : Return) (s : State) :
    requestDumpRead (withReturn m x s) = withReturn m x (requestDumpRead s) := by
  have hrequest (b : BankId) (blk : Fin 512) :
      request b (.dumpRead blk) (withReturn m x s) = withReturn m x (request b (.dumpRead blk) s) := by
    have hbank : (withReturn m x s).bank b = s.bank b := by cases b <;> rfl
    unfold request
    rw [hbank]
    split <;> cases b <;> rfl
  exact hrequest _ _

theorem requestDumpRead_setMgmt (m : Mgmt) (s : State) :
    requestDumpRead (setMgmt m s) = setMgmt m (requestDumpRead s) := by
  refine (requestDumpRead_withReturn m s.ret s).trans ?_
  rw [← requestDumpRead_ret s]
  rfl

theorem placeDumpFrame_setMgmt (d : DumpFrame) (m : Mgmt) (s : State) :
    placeDumpFrame d (setMgmt m s) = setMgmt m (placeDumpFrame d s) := by
  rw [placeDumpFrame_eq, placeDumpFrame_eq]
  split
  · rfl
  · exact requestDumpRead_setMgmt m (dumpPlaced d s)

/-- While a frame is in execution, its phase does not matter to what the arbiter takes. -/
theorem returnTake_setMgmt {f g : MgmtFrame} {p q : Phase} {s : State} (h : s.mgmt = .executing f p) :
    returnTake (setMgmt (.executing g q) s) = setMgmt (.executing g q) (returnTake s) := by
  have hbefore : ∀ r, s.mgmt ≠ .holding r := fun r hr => by rw [h] at hr; cases hr
  have hafter : ∀ r, (setMgmt (.executing g q) s).mgmt ≠ .holding r := fun r hr => by cases hr
  cases hline : s.ret.line with
  | some x =>
    have hbusy : s.ret.line.isSome = true := by rw [hline]; rfl
    rw [returnTake_busy hbusy, returnTake_busy (s := setMgmt (.executing g q) s) hbusy]
  | none =>
    cases hreply : s.ret.replyPlace with
    | some r =>
      rw [returnTake_reply hline hreply hbefore, returnTake_reply (s := setMgmt (.executing g q) s) hline hreply hafter]
      rfl
    | none =>
      cases hnotices : s.notices with
      | cons n rest =>
        rw [returnTake_notice hline hreply hnotices,
          returnTake_notice (s := setMgmt (.executing g q) s) hline hreply hnotices]
        rfl
      | nil =>
        cases hplace : s.ret.dumpPlace with
        | none =>
          rw [returnTake_nothing hline hreply hnotices hplace,
            returnTake_nothing (s := setMgmt (.executing g q) s) hline hreply hnotices hplace]
        | some d =>
          cases hheld : s.dump.held with
          | none =>
            rw [returnTake_dump hline hreply hnotices hplace hheld,
              returnTake_dump (s := setMgmt (.executing g q) s) hline hreply hnotices hplace hheld]
            rfl
          | some d' =>
            rw [returnTake_heldDump hline hreply hnotices hplace hheld,
              returnTake_heldDump (s := setMgmt (.executing g q) s) hline hreply hnotices hplace hheld,
              ← placeDumpFrame_setMgmt]
            rfl

/-- R174: a RESTART whose work has ended becomes, after the choice, a frame whose effects are complete. -/
theorem returnChoose_settled {f : MgmtFrame} {s : State} (hmgmt : s.mgmt = .executing f .restarting)
    (hsettled : RestartSettled s) : returnChoose s =
      setMgmt (.executing f (.finished (statusReply f .done))) (returnChoose (setMgmt (.executing f .taken) s)) := by
  have hsettle {v : State} (hv : v.mgmt = .executing f .restarting) (h : RestartSettled v) :
      settleRestart v = setMgmt (.executing f (.finished (statusReply f .done))) v := by
    simp only [settleRestart, hv, (restartSettled_iff v).2 h, if_true]
    rfl
  have hkept {v : State} (hv : v.mgmt = .executing f .taken) : settleRestart v = v :=
    settleRestart_of_mgmt fun g hg => by rw [hv] at hg; cases hg
  have hbefore : placeReady s = s := placeReady_none (by rw [hmgmt]; rfl)
  have hafter : placeReady (setMgmt (.executing f .taken) s) = setMgmt (.executing f .taken) s := placeReady_none rfl
  unfold returnChoose
  rw [hbefore, hafter, show (setMgmt (.executing f .taken) s).ret = s.ret from rfl]
  split
  · rw [hsettle hmgmt hsettled, hkept rfl]
    rfl
  · rw [returnTake_setMgmt hmgmt, hsettle ((returnTake_executing hmgmt).trans hmgmt)
      ((returnTake_settled s).2 hsettled), hkept rfl]
    rfl

theorem placeReady_mgmt (s : State) : (placeReady s).mgmt = s.mgmt ∨ (placeReady s).mgmt = .idle := by
  unfold placeReady
  split
  · split
    · exact .inr (placeReply_mgmt _ _)
    · exact .inl rfl
  · exact .inl rfl

theorem returnTake_mgmt (s : State) : (returnTake s).mgmt = s.mgmt ∨ (returnTake s).mgmt = .idle := by
  unfold returnTake
  split
  · exact .inl rfl
  · dsimp only
    split
    · exact .inr (placeReply_mgmt _ _)
    · exact .inl rfl
    · exact .inl rfl
  · exact .inl rfl
  · dsimp only
    split
    · exact .inl (placeDumpFrame_mgmt _ _)
    · exact .inl rfl
  · exact .inl rfl

/-- While no RESTART is settled, the arbiter's choice is the whole of `returnChoose`. -/
theorem returnChoose_eq {s : State} (h : ∀ f, s.mgmt = .executing f .restarting → ¬ RestartSettled s) :
    returnChoose s = if s.ret.line.isSome then s else returnTake (placeReady s) := by
  unfold returnChoose
  split
  · exact settleRestart_eq h
  · refine settleRestart_eq fun f hf => ?_
    have hplaced : (placeReady s).mgmt = .executing f .restarting := by
      rcases returnTake_mgmt (placeReady s) with hsame | hidle
      · rw [← hsame, hf]
      · rw [hidle] at hf
        cases hf
    have hmgmt : s.mgmt = .executing f .restarting := by
      rcases placeReady_mgmt s with hsame | hidle
      · rw [← hsame, hplaced]
      · rw [hidle] at hplaced
        cases hplaced
    rw [returnTake_settled, placeReady_none (by rw [hmgmt]; rfl)]
    exact h f hmgmt

/-- The first block's read follows a DUMP's reply to its place. -/
theorem placeReply_bankOf (r : Reply) (s : State) : placeReply r s =
    if r.startsDump then request (if s.dump.next.1 % 2 = 0 then .e else .o) (.dumpRead s.dump.next) (replyPlaced r s)
    else replyPlaced r s := by
  rw [placeReply_eq, ← bankOf_eq]
  rfl

/-- Log entry 34: a ready reply is placed and goes at once, before what waits. -/
theorem returnTake_placeReady {r : Reply} {s : State} (hline : s.ret.line = none) (hreply : s.ret.replyPlace = none)
    (hwaits : s.notices ≠ [] ∨ s.ret.dumpPlace.isSome = true) (hready : readyReply s.mgmt = some r) :
    returnTake (placeReady s) =
      if r.startsDump then request (if s.dump.next.1 % 2 = 0 then .e else .o) (.dumpRead s.dump.next)
        (withReturn .idle { s.ret with line := some (.reply r) } s)
      else withReturn .idle { s.ret with line := some (.reply r) } s := by
  have hret : ({ s.ret with line := some (.reply r), replyPlace := none } : Return) =
      { s.ret with line := some (.reply r) } := by rw [← hreply]
  have hplaced : returnTake (placeReply r s) =
      withReturn .idle { s.ret with line := some (.reply r), replyPlace := none } (placeReply r s) := by
    rw [returnTake_reply (by rw [placeReply_ret]; exact hline) (by rw [placeReply_ret])
      (fun q hq => by rw [placeReply_mgmt] at hq; cases hq), placeReply_ret, ← placeReply_mgmt r s]
    rfl
  rw [placeReady_some hready hreply hwaits, hplaced, hret, placeReply_eq]
  split
  · rw [← requestDumpRead_withReturn, requestDumpRead, bankOf_eq]
    rfl
  · rfl

/-- Settles O52: the end of a frame, a settled RESTART, and the arbiter's choice in each case. -/
theorem returnChoosesNext : Obligations.ReturnChoosesNext := by
  unfold Obligations.ReturnChoosesNext
  refine fun s => ⟨fun x hawake hline hmore => exec_of_effect hawake ?_, fun f hmgmt hsettled =>
    returnChoose_settled hmgmt hsettled, fun hopen => ?_⟩
  · have hends : endsDump x s = false := by
      cases x with
      | reply r => rfl
      | notice n => rfl
      | dump d => simp only [endsDump, hmore d rfl, Bool.false_and]
    change returnTransmitEnd s = _
    simp only [returnTransmitEnd, hline, hends, Bool.false_eq_true, if_false]
  · have hchoose := returnChoose_eq hopen
    refine ⟨fun hbusy => hchoose.trans (if_pos hbusy), fun hline => ?_⟩
    have hidle : ¬ s.ret.line.isSome = true := by rw [hline]; exact Bool.false_ne_true
    rw [if_neg hidle] at hchoose
    refine ⟨fun r hreply => ?_, fun hreply hwaits f r hready => ?_, fun hreply hnone => ?_,
      fun hreply hnotices hplace => ?_⟩
    · rw [placeReady_full (by rw [hreply]; rfl)] at hchoose
      refine ⟨fun h => hchoose.trans (returnTake_reply hline hreply h), fun q hq => ?_⟩
      rw [hchoose, returnTake_held hline hreply hq, placeReply_bankOf]
      rfl
    · exact hchoose.trans (returnTake_placeReady hline hreply hwaits ((readyReply_iff s r).2 ⟨f, hready⟩))
    · have hready : readyReply s.mgmt = none := by
        rw [Option.eq_none_iff_forall_ne_some]
        intro r hr
        obtain ⟨f, hf⟩ := (readyReply_iff s r).1 hr
        exact hnone f r hf
      rw [placeReady_none hready] at hchoose
      refine ⟨fun n rest hnotices => hchoose.trans (returnTake_notice hline hreply hnotices),
        fun hnotices d hplace => ⟨fun hheld => hchoose.trans (returnTake_dump hline hreply hnotices hplace hheld),
          fun q hheld => ?_⟩⟩
      intro u
      rw [hchoose, returnTake_heldDump hline hreply hnotices hplace hheld]
      by_cases hlast : q.last = true
      · rw [placeDumpFrame_last hlast, if_pos hlast]
      · rw [placeDumpFrame_more (Bool.eq_false_iff.2 hlast), if_neg hlast]
    · rw [placeReady_quiet hnotices hplace] at hchoose
      exact hchoose.trans (returnTake_nothing hline hreply hnotices hplace)

end Machine
end Sys2Proof

namespace Sys2Proof
namespace Machine

/-! ### RESTART (R76, R111, R135, R154, R174, R180) -/

/-- R180: a block read of the dump is requested or under way. -/
theorem dumpReadOut_iff (s : State) : dumpReadOut s = true ↔ ∃ b : BankId, (s.bank b).waitDump.isSome = true ∨
    ∃ u blk, (s.bank b).busy = some u ∧ u.op = .dumpRead blk := by
  have hhere (k : Bank) : ((k.waitDump.isSome || (match k.busy with
      | some u => (match u.op with
        | .dumpRead _ => true
        | _ => false)
      | none => false)) = true) ↔
        (k.waitDump.isSome = true ∨ ∃ u blk, k.busy = some u ∧ u.op = .dumpRead blk) := by
    rw [Bool.or_eq_true]
    refine or_congr_right ?_
    cases k.busy with
    | none => simp
    | some u => cases hop : u.op <;> simp [hop]
  refine (Bool.or_eq_true _ _).to_iff.trans ((or_congr (hhere s.bankE) (hhere s.bankO)).trans ?_)
  constructor
  · rintro (h | h)
    · exact ⟨.e, h⟩
    · exact ⟨.o, h⟩
  · rintro ⟨b, h⟩
    cases b
    · exact .inl h
    · exact .inr h

section
variable {u : State}

/-- R76: what RESTART makes of the pass, the history and the sequence. -/
theorem restartPass_eq (hwalked : u.pass.stage = .walk → 96 ≤ u.pass.walkPos → u.pass.waiting = 0)
    (hrestart : restartWaiting u = true) : restartPass u = { u with
      history := if u.pass.stage = .idle ∨ (u.pass.stage = .walk ∧ 96 ≤ u.pass.walkPos) then [] else u.history
      pushPos := if u.pass.stage = .idle ∨ (u.pass.stage = .walk ∧ 96 ≤ u.pass.walkPos) then 0 else u.pushPos
      seq := if u.pass.stage = .idle ∨ (u.pass.stage = .walk ∧ 96 ≤ u.pass.walkPos) then 0 else u.seq
      pass :=
        if u.pass.stage = .idle then u.pass
        else if u.pass.stage = .walk ∧ 96 ≤ u.pass.walkPos then
          { u.pass with stage := .idle, lastOutcome := .restarted, ending := none, comp := none }
        else { u.pass with ending := u.pass.ending.or (some .restart) } } := by
  unfold restartPass
  cases hstage : u.pass.stage with
  | idle => simp [clearHistory]
  | push => simp
  | walk =>
    by_cases hpos : 96 ≤ u.pass.walkPos
    · have hend := endPass_restarted u.pass.walkPos (hwalked hstage hpos) hrestart
      rw [walkTo_self] at hend
      simp only [reduceCtorEq, hpos, ↓reduceIte, and_self, or_true]
      exact hend
    · simp [hpos]

theorem restartDump_eq : restartDump u = { u with
    dump :=
      if u.dump.state = .holding ∨ (u.dump.state = .finishing ∧ u.ret.dumpPlace.isSome = true) ∨
          (u.dump.state = .reading ∧ dumpReadOut u = false) then
        { u.dump with state := .idle, held := none, aborting := false }
      else if u.dump.state = .reading then { u.dump with aborting := true } else u.dump
    ret :=
      if u.dump.state = .holding ∨ (u.dump.state = .finishing ∧ u.ret.dumpPlace.isSome = true) ∨
          (u.dump.state = .reading ∧ dumpReadOut u = false) then
        { u.ret with dumpPlace := some ⟨u.dump.next, false, false, true, []⟩ }
      else u.ret } := by
  unfold restartDump
  cases hstate : u.dump.state with
  | idle => simp
  | reading =>
    cases hout : dumpReadOut u with
    | true => simp
    | false => simp [placeAborted, abortedFrame]
  | holding => simp [placeAborted, abortedFrame]
  | finishing =>
    cases hplace : u.ret.dumpPlace.isSome with
    | true => simp [placeAborted, abortedFrame]
    | false => simp

end

theorem restartedEngine_eq (s : State) :
    restartedEngine s = s.engine.bind fun v => if v.updating then some { v with abandon := true } else none := by
  unfold restartedEngine
  cases s.engine <;> rfl

theorem exec_restart_eq (s : State) : exec .restart s = onFrame .restart actRestart s := rfl

/-- Settles O48: RESTART's three parts one after the other, of which neither the first nor the pass's touches the dump,
the return or a bank. -/
theorem restartResets : Obligations.RestartResets := by
  intro f s readOut hexec hwaiting hread walked clears aborts hpos
  have hout : dumpReadOut s = readOut := Bool.eq_iff_iff.2 ((dumpReadOut_iff s).trans hread.symm)
  have hpass := restartPass_eq (u := restarted f s)
    (fun hstage hwalked => hwaiting hstage (Nat.le_antisymm hpos hwalked)) rfl
  have hdump := restartDump_eq (u := restartPass (restarted f s))
  have hbanks : dumpReadOut (restartPass (restarted f s)) = readOut := by rw [hpass]; exact hout
  refine ⟨restartedGain s, restartedLanes s, ?_, fun n => GainLegal.restartedGain_get s n,
    fun l => TrafficConsistent.restartedLanes_get s l⟩
  rw [exec_restart_eq, onFrame_executing hexec, actRestart_eq, hdump, hbanks, hpass, ← restartedEngine_eq]
  rfl

end Machine
end Sys2Proof
